-- ==== Sys2Proof/Word.lean ====
section
/-! DEFINITION. The widths and numberings of the PD416: words, addresses, and the numbers of hosts, cells,
stride entries, walk units, places and tag slots (00_scope.md, Conventions). -/

namespace Sys2Proof

/-- A host port word is 32 bits (00_scope.md, Words). -/
abbrev Word := BitVec 32

/-- A memory address is a 32-bit byte address; address arithmetic wraps modulo 2^32 (00_scope.md, Addresses; R75). -/
abbrev Addr := BitVec 32

/-- The 8-byte unit of the memory data path (00_scope.md, Addresses; R115). -/
abbrev DataUnit := BitVec 64

/-- Hosts H0 to H3; host Hn is attached to port HPn and owns completion queue CQn. -/
abbrev HostId := Fin 4

/-- Cells C0 to C63. -/
abbrev CellId := Fin 64

/-- Stride entries S0 to S15. -/
abbrev StrideId := Fin 16

/-- Walk units WU0 to WU3. -/
abbrev UnitId := Fin 4

/-- The four places of one walk unit's window (R102). -/
abbrev PlaceId := Fin 4

/-- Tag slots 0 to 16 of the memory port (R117). -/
abbrev SlotId := Fin 17

/-- A round number is a count from 0 to 65535 that wraps (R23). -/
abbrev RoundNumber := BitVec 16

/-- A set of hosts, bit n standing for Hn (R21; 10_formats_and_layouts.md, "Set fields hold one bit per member"). -/
abbrev HostSet := BitVec 4

/-- The error latch, a set of five kinds (R152; section 10.6): bit 0 FAULTED, 1 EXPIRED, 2 ABORTED, 3 LOST,
4 WRITE_FAILED. -/
abbrev LatchSet := BitVec 5

end Sys2Proof
end

