-- ==== Sys2Proof/Syntax.lean ====
section
/-! DEFINITION. The commands and events of the PD416, one constructor for each row of spec/opcode_table.json. Their
meaning is in Machine/ alone. -/

namespace Sys2Proof

/-- The two read-only locations of the port window that a host may nevertheless write to (R135). -/
inductive ReadOnlyLocation where
  | response
  | portStatus
  deriving DecidableEq, Repr

/-- What a memory response presents beside its tag (R116). Data presented with ERROR is ignored. -/
inductive MemAnswer where
  /-- OK, with the 8-byte data unit (ignored for a write). -/
  | ok (data : DataUnit)
  /-- ERROR. -/
  | error
  deriving DecidableEq, Repr

/-- One constructor per row of the table. `h` is a host, `c` a cell, `w` a walk unit, `k` a place of its window, `t` a
tag slot. A row that stands for an access of a host carries the word on the host bus; a row that stands for the taking
of a message names the receiver, and the message itself lies in the machine's state. -/
inductive Instr where
  /-- OPEN (R27): the Cell Table takes the OPEN that port `h` has handed over. -/
  | openCell (h : HostId)
  /-- CONTRIBUTE (R28): the Cell Table takes the CONTRIBUTE that port `h` has handed over. -/
  | contribute (h : HostId)
  /-- WAIT (R31). -/
  | wait (h : HostId)
  /-- ABORT (R55). -/
  | abort (h : HostId)
  /-- RELEASE (R33). -/
  | release (h : HostId)
  /-- QUERY (R34). -/
  | query (h : HostId)
  /-- SET_STRIDE (R84): the Stride Table takes the SET_STRIDE that port `h` has handed over. -/
  | setStride (h : HostId)
  /-- READ_STRIDE (R86). -/
  | readStride (h : HostId)
  /-- UNKNOWN_COMMAND (R137): `h` writes a first word whose code names no command. -/
  | unknownCommand (h : HostId) (word : Word)
  /-- COMMAND_DECISION (R139): the owner's decision reaches port `h`. -/
  | commandDecision (h : HostId)
  /-- IGNORED_WRITE (R135): `h` writes to RESPONSE or PORT STATUS. -/
  | ignoredWrite (h : HostId) (location : ReadOnlyLocation) (word : Word)
  /-- RESPONSE_READ (R158, R159): `h` reads RESPONSE. -/
  | responseRead (h : HostId)
  /-- PORT_RESET (R148): `h` writes a PORT CONTROL word with RESET. -/
  | portReset (h : HostId) (word : Word)
  /-- DISCARD (R145): `h` writes a PORT CONTROL word with DISCARD. -/
  | discard (h : HostId) (word : Word)
  /-- ACK (R161): `h` writes a PORT CONTROL word with a nonempty ACK set. -/
  | ack (h : HostId) (word : Word)
  /-- SET_ENABLES (R144): `h` writes a PORT CONTROL word with set enables. -/
  | setEnables (h : HostId) (word : Word)
  /-- SELECT_VIEW (R172): `h` writes a PORT CONTROL word with select view. -/
  | selectView (h : HostId) (word : Word)
  /-- RESET_LINE_ASSERTED (R147). -/
  | resetLineAsserted (h : HostId)
  /-- RESET_LINE_RELEASED (R147). -/
  | resetLineReleased (h : HostId)
  /-- ACKNOWLEDGEMENT (R149): port `h` takes one acknowledgement of a port-reset notice. -/
  | acknowledgement (h : HostId)
  /-- LOSS_NOTICE (R62 to R64): the Cell Table takes the loss notice of `h`. -/
  | lossNotice (h : HostId)
  /-- REMOVAL (R98): the Pending Queue takes the removal naming `h`. -/
  | removal (h : HostId)
  /-- CUT (R113): walk unit `w` takes the cut naming `h`. -/
  | cut (w : UnitId) (h : HostId)
  /-- CANCEL (R112): walk unit `w` takes the cancel naming cell `c` and its round. -/
  | cancel (w : UnitId) (c : CellId) (round : RoundNumber)
  /-- WALK_END_DONE (R36, R59): cell `c` takes a DONE report. -/
  | walkEndDone (c : CellId)
  /-- WALK_END_FAULT (R50, R59): cell `c` takes a FAULT report. -/
  | walkEndFault (c : CellId)
  /-- WALK_END_CUT (R59, R65): cell `c` takes a CUT report. -/
  | walkEndCut (c : CellId)
  /-- PUBLICATION_DONE (R39): cell `c` takes the Publisher's report. -/
  | publicationDone (c : CellId)
  /-- DISPATCH (R99, R100): the Dispatcher pairs what it can. -/
  | dispatch
  /-- ARBITER_GRANT (R124): the memory side becomes ready, and the arbiter makes one grant as soon as an offer stands. -/
  | arbiterGrant
  /-- READ_GRANT_TAKEN (R103): walk unit `w` takes its grant. -/
  | readGrantTaken (w : UnitId)
  /-- WRITE_GRANT_TAKEN (R129): the Publisher takes its grant. -/
  | writeGrantTaken
  /-- MEMORY_RESPONSE (R119): the tag table takes a response with its ten-bit tag. -/
  | memoryResponse (tag : BitVec 10) (answer : MemAnswer)
  /-- RESPONSE_TIMER_TICK (R120): the timer of slot `t` takes a tick. -/
  | responseTimerTick (t : SlotId)
  /-- RESPONSE_TIMEOUT (R120): the timer of slot `t` takes the tick that brings it to 0. -/
  | responseTimeout (t : SlotId)
  /-- WALK_UNIT_ANSWER (R104): walk unit `w` takes the answer for its place `k`. -/
  | walkUnitAnswer (w : UnitId) (k : PlaceId)
  /-- PUBLISHER_ANSWER (R130): the Publisher takes the answer to its write. -/
  | publisherAnswer
  /-- TICK (R174). -/
  | tick
  /-- DEADLINE_TIMER_TICK (R24): the deadline timer of cell `c` takes a tick. -/
  | deadlineTimerTick (c : CellId)
  /-- DEADLINE_EXPIRY (R54): the deadline timer of cell `c` takes the tick that brings it to 0. -/
  | deadlineExpiry (c : CellId)
  /-- DEVICE_RESET (R45): the device reset input is asserted. -/
  | deviceReset
  /-- DEVICE_RESET_RELEASE (R175): the device reset input is released with these strapping inputs. -/
  | deviceResetRelease (straps : BitVec 7)
  /-- COMMAND_WRITE (R138): `h` writes a word to COMMAND. -/
  | commandWrite (h : HostId) (word : Word)
  /-- SUPPLIES_COME_UP (R117). -/
  | suppliesComeUp
  deriving DecidableEq, Repr

end Sys2Proof
end

