-- ==== Sys2Proof/Decode.lean ====
section
/-! DEFINITION. The table's bits: spec/opcode_table.json gives no row any bits, so no word spells a command (log 19). The
words that a host writes are decoded where they are taken: the command words in Machine/Operands.lean (section 10.2), the
PORT CONTROL word there too (section 10.4). -/

namespace Sys2Proof

/-- The command that a word spells by the table's bits: none, for the table gives no row any. -/
def decodeTableWord (_nbits _w : Nat) : Option Instr :=
  none

end Sys2Proof
end

