-- ==== Sys2Proof/Machine/Bits.lean ====
section
/-! DEFINITION. Bit-field and byte-order helpers: the fields of a word, words built from fields, sets of hosts, and the
element bytes that an address selects from an 8-byte unit (10_formats_and_layouts.md; R1). -/

namespace Sys2Proof.Machine

/-- The number in bits `hi` down to `lo` of a word (10_formats_and_layouts.md: "A field given as 21:16 occupies bits
21 down to 16, and its least significant bit is bit 16"). -/
def bitField (word : Word) (hi lo : Nat) : Nat :=
  word.toNat / 2 ^ lo % 2 ^ (hi - lo + 1)

/-- The bits `hi` down to `lo` of a word as a two's-complement number ("Signed fields are two's complement within
their width"). -/
def signedField (word : Word) (hi lo : Nat) : Int :=
  (BitVec.ofNat (hi - lo + 1) (bitField word hi lo)).toInt

/-- Bit `n` of a word. -/
def bitSet (word : Word) (n : Nat) : Bool :=
  bitField word n n == 1

/-- A word whose bits `hi` down to `lo` hold `value`, for each (hi, lo, value) listed; every other bit is 0. -/
def packFields (fields : List (Nat × Nat × Nat)) : Word :=
  BitVec.ofNat 32 (fields.foldl (fun sum f => sum + f.2.2 % 2 ^ (f.1 - f.2.1 + 1) * 2 ^ f.2.1) 0)

/-- A Boolean as a one-bit field. -/
def bit (b : Bool) : Nat :=
  if b then 1 else 0

/-- A signed number as the unsigned pattern of its two's complement in `width` bits. -/
def signedPattern (width : Nat) (x : Int) : Nat :=
  (BitVec.ofInt width x).toNat

/-- Whether a host is in a set (bit n stands for Hn). -/
def member (set : HostSet) (h : HostId) : Bool :=
  set.getLsbD h.val

/-- The set of one host. -/
def single (h : HostId) : HostSet :=
  1#4 <<< h.val

/-- A set with one host added; sets have no duplicates (R21). -/
def join (set : HostSet) (h : HostId) : HostSet :=
  set ||| single h

/-- A set with one host removed. -/
def leave (set : HostSet) (h : HostId) : HostSet :=
  set &&& ~~~(single h)

/-- H0, H1, H2, H3: host order (00_scope.md, "Where the manual says host order"). -/
def hostOrder : List HostId :=
  [0, 1, 2, 3]

/-- WU0 to WU3 in rising order. -/
def unitOrder : List UnitId :=
  [0, 1, 2, 3]

/-- The places of a window in rising order. -/
def placeOrder : List PlaceId :=
  [0, 1, 2, 3]

/-- C0 to C63 in rising order. -/
def cellOrder : List CellId :=
  List.finRange 64

/-- The signed element of `size` bytes that `address` selects in its 8-byte unit, the byte at the lowest address least
significant (R1, R116). -/
def elementBytes (unit : DataUnit) (address : Addr) (size : Nat) : Int :=
  (BitVec.ofNat (8 * size) (unit.toNat / 2 ^ (8 * (address.toNat % 8)))).toInt

end Sys2Proof.Machine
end

