-- ==== Sys2Proof/Config.lean ====
section
/-! DEFINITION. What a board fixes for the PD416 and the free values: the frequency selection before any device
reset, and the order of the cells that one loss notice ends. -/

namespace Sys2Proof

/-- The clock periods in one tick while no device reset has yet latched the strapping inputs.
DESIGN CHOICE (log 3): the spec takes the selection from the straps at a device reset (R175) and states none before
the first; 20 is the selection that straps of all zeros give. unsafe. -/
def Config.powerUpPeriods : Nat := 20

/-- The free order of the cells that one loss notice ends (R62, R64): the n-th loss notice ends its cells in rising
order of this key, cells of equal key in cell order. The spec makes the loss notice ONE event and states no order
among its cells. DEDUCED (log 14), free value: nothing can evaluate it. safe. -/
opaque Config.lossOrder : Nat → CellId → Nat

end Sys2Proof
end

