-- ==== Sys2Proof/Machine/State.lean ====
section
/-! DEFINITION. The state of the PD416 as plain data: every register, queue, timer, mode and pin the spec gives the
part, the messages between its blocks that are sent and not yet taken, and the queue of commands that wait. INVENTORY.md
lists each field with its rule. -/

namespace Sys2Proof.Machine

/-! ### Settings and element formats (chapter 1, chapter 4) -/

/-- The combine operations (section 1.4). -/
inductive Operation where
  | sum
  | max
  | min
  deriving DecidableEq, Repr

/-- What settles a SUM overflow (R9). -/
inductive OverflowPolicy where
  | saturate
  | wrap
  | trap
  deriving DecidableEq, Repr

/-- What settles a value outside the output width's range (R16). WRAP is refused at OPEN (R26). -/
inductive OutputPolicy where
  | saturate
  | trap
  deriving DecidableEq, Repr

/-- The rounding modes of R5. -/
inductive Rounding where
  | chop
  | nearest
  deriving DecidableEq, Repr

/-- What becomes of a VOID element (R2). -/
inductive VoidPolicy where
  | skip
  | trap
  deriving DecidableEq, Repr

/-- The output widths of R16. -/
inductive OutputWidth where
  | w32
  | w48
  deriving DecidableEq, Repr

/-- The element formats of R1 and R68. -/
inductive ElementFormat where
  | s8
  | s16
  | s32
  deriving DecidableEq, Repr

/-- The settings of a cell that its walks use; a dispatch copies these five (R100 step 3). -/
structure CombineSettings where
  operation : Operation
  overflow : OverflowPolicy
  voidPolicy : VoidPolicy
  rounding : Rounding
  precisionReporting : Bool
  deriving DecidableEq, Repr

/-- All eight cell settings of section 1.1. -/
structure Settings where
  combine : CombineSettings
  output : OutputPolicy
  width : OutputWidth
  /-- 0..16. -/
  postShift : Nat
  deriving DecidableEq, Repr

/-- The five tallies of R11. Each is an unsigned 32-bit count that cannot overflow (R11); log 20. -/
structure Tallies where
  combined : Nat
  voids : Nat
  saturations : Nat
  wraps : Nat
  losses : Nat
  deriving DecidableEq, Repr

/-- The tallies at the start of a round (R11). -/
def Tallies.zero : Tallies :=
  { combined := 0, voids := 0, saturations := 0, wraps := 0, losses := 0 }

/-- The five flags of R19. -/
structure RoundFlags where
  empty : Bool
  saturated : Bool
  voidsSkipped : Bool
  wrapped : Bool
  precisionLost : Bool
  deriving DecidableEq, Repr

/-! ### Rounds and cells (chapters 2 and 3) -/

/-- The six kinds of effective exception (R12). -/
inductive ExceptionKind where
  | voidOperand
  | precision
  | overflow
  | resultRange
  | busError
  | busTimeout
  deriving DecidableEq, Repr

/-- The three items a kind raised at an element carries (R12, R51). -/
structure ElementItems where
  host : HostId
  /-- The element's position in walk order, the first element 0. -/
  index : Nat
  address : Addr
  deriving DecidableEq, Repr

/-- The fault record of a round (R51): the kind, and the element items where the kind carries them. -/
structure FaultRecord where
  kind : ExceptionKind
  element : Option ElementItems
  deriving DecidableEq, Repr

/-- How a round ended (R47). -/
inductive RoundOutcome where
  | complete
  | faulted
  | expired
  | aborted
  | lost
  deriving DecidableEq, Repr

/-- What became of a posted host's contribution (R46). -/
inductive ContributionStatus where
  | pending
  | walked
  | faulting
  | cut
  | absorbed
  | dropped
  deriving DecidableEq, Repr

/-- What became of a round's publication (R38, R39). -/
inductive PublicationStatus where
  | written
  | writeFailed
  | notWritten
  deriving DecidableEq, Repr

/-- A round's result with the flags of R19. `value` is none for VOID (R18). -/
structure RoundResult where
  value : Option Int
  flags : RoundFlags
  deriving DecidableEq, Repr

/-- The five states of a cell that is not FREE (R22). -/
inductive Phase where
  | collecting
  | absorbing
  | draining
  | publishing
  | held
  deriving DecidableEq, Repr

/-- The record of a cell that is not FREE: every field of R20 but the round number. -/
structure Round where
  phase : Phase
  opener : HostId
  participants : HostSet
  posted : HostSet
  arrived : HostSet
  settings : Settings
  repeats : Bool
  final : Bool
  destination : Option Addr
  timeout : Nat
  deadline : Nat
  accumulator : Option Int
  tallies : Tallies
  walkInFlight : Option UnitId
  inFlightHost : Option HostId
  outcome : Option RoundOutcome
  fault : Option FaultRecord
  result : Option RoundResult
  publication : Option PublicationStatus
  /-- The notify list's contribution notices that are reserved. -/
  contributionNotices : HostSet
  /-- The notify list's wait notices that are reserved. -/
  waitNotices : HostSet
  statuses : Vector (Option ContributionStatus) 4
  deriving DecidableEq, Repr

/-- One cell (R20). `round` is none in the FREE state, whose record holds only the state and the round number. -/
structure Cell where
  number : RoundNumber
  round : Option Round
  deriving DecidableEq, Repr

/-! ### Walk descriptors, contributions and walk units (chapters 4 and 6) -/

/-- The nine fields of a walk descriptor (R67). -/
structure Descriptor where
  base : Addr
  format : ElementFormat
  dims : Nat
  inner : Nat
  middle : Nat
  outer : Nat
  /-- The inner step, in elements. -/
  step : Int
  middleEntry : StrideId
  outerEntry : StrideId
  deriving DecidableEq, Repr

/-- An entry of the Pending Queue, the whole of one accepted contribution (R94). `refs` lists its namings (R88). -/
structure Contribution where
  cell : CellId
  round : RoundNumber
  host : HostId
  descriptor : Descriptor
  prescale : Int
  priority : Nat
  hold : Bool
  refs : List StrideId
  deriving DecidableEq, Repr

/-- A stride entry (R83). -/
structure StrideEntry where
  value : Int
  count : Nat
  writer : Option HostId
  deriving DecidableEq, Repr

/-- An address generator that follows a walk (R78). -/
structure Generator where
  address : Addr
  inner : Nat
  middle : Nat
  outer : Nat
  exhausted : Bool
  deriving DecidableEq, Repr

/-- The answer to a memory request (R104, R116, R120). -/
inductive Answer where
  | ok (data : DataUnit)
  | error
  | timeout
  deriving DecidableEq, Repr

/-- A place in use of a walk unit's window (R102): outstanding while `answer` is none. -/
structure Place where
  index : Nat
  address : Addr
  size : Nat
  answer : Option Answer
  deriving DecidableEq, Repr

/-- The contribution that a walk unit in WALKING holds, with the settings copied from its cell (R100, R102). -/
structure Walk where
  contribution : Contribution
  settings : CombineSettings
  deriving DecidableEq, Repr

/-- The states of a walk unit (R102). Only WALKING holds a contribution. -/
inductive UnitMode where
  | idle
  | walking (walk : Walk)
  | stopping
  deriving DecidableEq, Repr

/-- A walk unit (R102). The generator is none before the unit's first dispatch after a device reset, and is left where
it stands when a walk ends (R80, R107). The working accumulator and the working tallies are absent and 0 after a device
reset, and again when they are given up at the end of a walk (R107; log 16). -/
structure WalkUnit where
  mode : UnitMode
  generator : Option Generator
  window : Vector (Option Place) 4
  working : Option Int
  tallies : Tallies
  deriving DecidableEq, Repr

/-- The kinds of walk-end report with what each carries (R107). -/
inductive ReportKind where
  | done (accumulator : Option Int) (tallies : Tallies)
  | fault (kind : ExceptionKind) (index : Nat) (address : Addr)
  | cut
  deriving DecidableEq, Repr

/-- A walk-end report on its way to its cell (R107). -/
structure WalkReport where
  cell : CellId
  round : RoundNumber
  host : HostId
  unit : UnitId
  kind : ReportKind
  deriving DecidableEq, Repr

/-- A cancel on its way to a walk unit (R58, R112). -/
structure CancelMessage where
  unit : UnitId
  cell : CellId
  round : RoundNumber
  deriving DecidableEq, Repr

/-- A publication-done report on its way to its cell (R131). -/
structure PublicationReport where
  cell : CellId
  status : PublicationStatus
  deriving DecidableEq, Repr

/-! ### Memory port and Publisher (chapter 7) -/

/-- A slot of the tag table (R117): OUTSTANDING or FREE, the sequence number, the ticks its timer has left. -/
structure TagSlot where
  outstanding : Bool
  sequence : BitVec 4
  timer : Nat
  deriving DecidableEq, Repr

/-- The steps of the Publisher (R129, R130). -/
inductive PublisherStep where
  | firstWrite
  | secondWrite
  deriving DecidableEq, Repr

/-- The Publisher's current record (R128): bytes 0–7 and bytes 8–15, the destination and the step. `waiting` says that
the step's write has been issued and its answer has not been taken (R129, R130). -/
structure PublisherRecord where
  cell : CellId
  destination : Addr
  firstHalf : DataUnit
  secondHalf : DataUnit
  step : PublisherStep
  waiting : Bool
  deriving DecidableEq, Repr

/-- The requesters before the arbiter (R123). -/
inductive Requester where
  | publisher
  | walkUnit (w : UnitId)
  deriving DecidableEq, Repr

/-- A grant made and not yet taken (R124). `withdrawn` says that its offer has been withdrawn since (R126); log 13. -/
structure Grant where
  requester : Requester
  withdrawn : Bool
  deriving DecidableEq, Repr

/-- A request as the request path presents it (R115). -/
structure MemRequest where
  address : Addr
  byteEnables : BitVec 8
  write : Bool
  data : Option DataUnit
  tag : BitVec 10
  deriving DecidableEq, Repr

/-! ### Completion queues (chapter 9) -/

/-- The two kinds of notice (R40), the contribution notice with the host's contribution status. -/
inductive NoticeKind where
  | contributionEnd (status : Option ContributionStatus)
  | waitEnd
  deriving DecidableEq, Repr

/-- What a CONTRIBUTION_END or WAIT_END carries (R156). -/
structure Notice where
  kind : NoticeKind
  cell : CellId
  number : RoundNumber
  outcome : Option RoundOutcome
  publication : Option PublicationStatus
  /-- The 64-bit result (R18). -/
  result : BitVec 64
  combined : Nat
  voids : Nat
  flags : RoundFlags
  fault : Option FaultRecord
  deriving DecidableEq, Repr

/-- What a REPORT carries: the cell's number and the cell itself as the QUERY found it (R34, R157). -/
structure Snapshot where
  cell : CellId
  record : Cell
  deriving DecidableEq, Repr

/-- A completion entry (R155). -/
inductive Entry where
  | notice (n : Notice)
  | report (r : Snapshot)
  deriving DecidableEq, Repr

/-- A completion queue (R152). -/
structure CompletionQueue where
  entries : List Entry
  reservations : Nat
  cursor : Nat
  latch : LatchSet
  line : Bool
  deriving DecidableEq, Repr

/-! ### Host ports (chapter 8) -/

/-- The synchronous status codes (R141, section 10.3). -/
inductive StatusCode where
  | none
  | accepted
  | unknownCommand
  | badField
  | badShape
  | badAlign
  | cellBusy
  | cellFree
  | wrongRound
  | roundClosed
  | notOpener
  | notParticipant
  | duplicate
  | queueFull
  | hostQuota
  | noCredit
  | strideBusy
  | notHeld
  deriving DecidableEq, Repr

/-- Where a command in DELIVERING stands: held in the port for acknowledgements (R149), handed to its owner (R139), or
decided, with the decision on its way back to the port (R139). -/
inductive DeliveryStage where
  | held
  | handed
  | decided (code : StatusCode) (value : Word)
  deriving DecidableEq, Repr

/-- The framing of a port (R136 to R139): ASSEMBLING carries the assembly buffer and the expected length, DELIVERING the
command's words and where they stand. -/
inductive Framing where
  | empty
  | assembling (words : List Word) (expected : Nat)
  | delivering (words : List Word) (stage : DeliveryStage)
  deriving DecidableEq, Repr

/-- The views of PORT STATUS (R142). -/
inductive StatusView where
  | command
  | value
  | queue
  deriving DecidableEq, Repr

/-- The record of a host port (R136), and the messages of its port resets (R148, R149): resets that wait for a decision,
notices sent and not yet taken by each receiver, and acknowledgements returned and not yet taken by the port. -/
structure HostPort where
  framing : Framing
  ticket : BitVec 8
  lastCode : StatusCode
  lastValue : Word
  view : StatusView
  completionEnable : Bool
  errorEnable : Bool
  awaited : Nat
  lineHeld : Bool
  deferredResets : Nat
  lossNotices : Nat
  removals : Nat
  cuts : Vector Nat 4
  acksReturned : Nat
  deriving DecidableEq, Repr

/-! ### The whole part -/

/-- The state of the part. -/
structure State where
  /-- The commands that wait, first in, first out (log 1). -/
  pending : List Instr
  ports : Vector HostPort 4
  queues : Vector CompletionQueue 4
  cells : Vector Cell 64
  strides : Vector StrideEntry 16
  /-- The Pending Queue's list, first entry first (R94, R95). -/
  contributions : List Contribution
  /-- The Pending Queue's count per host (R94). -/
  hostCounts : Vector Nat 4
  units : Vector WalkUnit 4
  /-- The Publication Queue (R127). -/
  publicationQueue : List CellId
  /-- The Publisher's current record; none when the Publisher is idle (R127). -/
  publisher : Option PublisherRecord
  slots : Vector TagSlot 17
  epoch : Bool
  rotation : UnitId
  holdOwner : Option UnitId
  grant : Option Grant
  /-- Whether the memory side is ready to take a request, the pin request ready of section 7.1 (R115, R124; log 12). -/
  memoryReady : Bool
  /-- The request path: the request issued last (R115); log 15. -/
  request : Option MemRequest
  /-- Answers handed to each slot's owner and not yet taken (R119, R120). -/
  answers : Vector (Option Answer) 17
  /-- Walk-end reports on their way (R107), in the order sent. -/
  walkReports : List WalkReport
  /-- Publication-done reports on their way (R131), in the order sent. -/
  publicationReports : List PublicationReport
  /-- Cancels on their way (R58). -/
  cancels : List CancelMessage
  /-- Ticks issued and not yet taken by each cell's deadline timer (R174). -/
  deadlineTicks : Vector Nat 64
  /-- Ticks issued and not yet taken by each slot's response timer (R174). -/
  responseTicks : Vector Nat 17
  tickCounter : Nat
  /-- The frequency selection: clock periods in one tick (R175). -/
  periods : Nat
  /-- Whether the device reset input is asserted (R175, R176). -/
  deviceReset : Bool
  /-- The word each host bus carried at the last read of RESPONSE; the model's own field (log 15). -/
  busData : Vector Word 4
  /-- How many loss notices have been taken; it picks the free order of `Config.lossOrder`; the model's own (log 14). -/
  lossCount : Nat
  deriving DecidableEq, Repr

/-- Why a step stops with a fault: the machine's own state holds a message that the spec says cannot reach its
receiver. No run from reset raises one; stopping is safe (log 17). -/
inductive Fault where
  /-- Raised by WALK_END_DONE, WALK_END_FAULT and WALK_END_CUT at a cell that has no walk in flight. R36: "A DONE report
  cannot reach a cell in ABSORBING, PUBLISHING, HELD or FREE"; R50 says the same of FAULT. safe. -/
  | reportWithoutWalk
  /-- Raised by PUBLICATION_DONE at a cell that is not PUBLISHING (R39, R131). safe. -/
  | publicationNotAwaited
  /-- Raised by WALK_UNIT_ANSWER for an empty place and by PUBLISHER_ANSWER at a Publisher that awaits no answer
  (R117: the requester's own state ensures it). safe. -/
  | answerNotAwaited
  deriving DecidableEq, Repr

/-- Why a command of the queue is refused: the event that it names is not there to be taken, so the part takes no such
event in this state. Every one is safe (log 6): the part has no such step. -/
inductive Refusal where
  /-- An instruction with no meaning yet; no arm of this model answers it. safe. -/
  | notModelled (mnemonic : String)
  /-- OPEN to READ_STRIDE when port `h` has not handed over such a command (R139). safe. -/
  | notHandedOver
  /-- COMMAND_DECISION when no decision is on its way to the port (R139). safe. -/
  | noDecision
  /-- An access of a host whose bus carries a held write (R135: "the host bus carries no other access"). safe (log 6). -/
  | busHeld
  /-- LOSS_NOTICE, REMOVAL or CUT when none is on its way (R149). safe. -/
  | noNotice
  /-- ACKNOWLEDGEMENT when none is on its way (R149). safe. -/
  | noAcknowledgement
  /-- CANCEL when no such cancel is on its way (R112). safe. -/
  | noCancel
  /-- WALK_END_DONE, WALK_END_FAULT or WALK_END_CUT when no such report is on its way (R107). safe. -/
  | noReport
  /-- PUBLICATION_DONE when no report is on its way (R131). safe. -/
  | noPublicationReport
  /-- READ_GRANT_TAKEN or WRITE_GRANT_TAKEN when the requester has no grant (R126). safe. -/
  | noGrant
  /-- WALK_UNIT_ANSWER or PUBLISHER_ANSWER when no answer is on its way (R119, R120). safe. -/
  | noAnswer
  /-- A timer row when the timer has no tick to take, or its tick does not bring it to 0 (R24, R120, R174). safe. -/
  | noTick
  /-- TICK while the device reset input is asserted (R176: "the Timebase issues no tick"). safe. -/
  | heldInDeviceReset
  /-- An assertion of an input that is asserted, or a release of one that is released (R147, R175). safe. -/
  | lineUnchanged
  deriving DecidableEq, Repr

/-- A host port after device reset (R136), its reset line not held (DESIGN CHOICE, log 9). -/
def HostPort.reset : HostPort :=
  { framing := .empty, ticket := 0, lastCode := .none, lastValue := 0, view := .command,
    completionEnable := false, errorEnable := false, awaited := 0, lineHeld := false, deferredResets := 0,
    lossNotices := 0, removals := 0, cuts := Vector.replicate 4 0, acksReturned := 0 }

/-- A completion queue after device reset (R152, R164). -/
def CompletionQueue.reset : CompletionQueue :=
  { entries := [], reservations := 0, cursor := 0, latch := 0, line := false }

/-- A cell after device reset: FREE with round number 0 (R45). -/
def Cell.reset : Cell :=
  { number := 0, round := none }

/-- A stride entry after device reset (R83, R92). -/
def StrideEntry.reset : StrideEntry :=
  { value := 0, count := 0, writer := none }

/-- A walk unit after device reset (R102, R114). -/
def WalkUnit.reset : WalkUnit :=
  { mode := .idle, generator := none, window := Vector.replicate 4 none, working := none, tallies := Tallies.zero }

/-- A tag slot after device reset (R117, R122). -/
def TagSlot.reset : TagSlot :=
  { outstanding := false, sequence := 0, timer := 0 }

/-- The part right after reset: every block at its device-reset value, the epoch 0 as when the supplies come up (R117),
the device reset input released. The values the spec does not give are DESIGN CHOICES (logs 2, 3, 9, 12, 14, 15). -/
def State.reset : State :=
  { pending := []
    ports := Vector.replicate 4 HostPort.reset
    queues := Vector.replicate 4 CompletionQueue.reset
    cells := Vector.replicate 64 Cell.reset
    strides := Vector.replicate 16 StrideEntry.reset
    contributions := []
    hostCounts := Vector.replicate 4 0
    units := Vector.replicate 4 WalkUnit.reset
    publicationQueue := []
    publisher := none
    slots := Vector.replicate 17 TagSlot.reset
    epoch := false
    rotation := 3
    holdOwner := none
    grant := none
    memoryReady := false
    request := none
    answers := Vector.replicate 17 none
    walkReports := []
    publicationReports := []
    cancels := []
    deadlineTicks := Vector.replicate 64 0
    responseTicks := Vector.replicate 17 0
    tickCounter := 0
    periods := Config.powerUpPeriods
    deviceReset := false
    busData := Vector.replicate 4 0
    lossCount := 0 }

end Sys2Proof.Machine
end

