-- ==== Sys2Proof/Machine/Arithmetic.lean ====
section
/-! DEFINITION. The combining arithmetic of chapter 1: the VOID test, prescale and rounding, the combine operations with
their overflow policies, and the output stage. Every function is exact on integers. -/

namespace Sys2Proof.Machine

/-- The element size in bytes (R68). -/
def elementSize : ElementFormat → Nat
  | .s8 => 1
  | .s16 => 2
  | .s32 => 4

/-- The VOID value of a format, the most negative pattern of its width (R1). -/
def elementVoid (format : ElementFormat) : Int :=
  -(2 ^ (8 * elementSize format - 1))

/-- 2^47−1, the end of the accumulator's symmetric range (R7). -/
def accumulatorMax : Int :=
  2 ^ 47 - 1

/-- The committed accumulator at an entry into COLLECTING (R7): 0 under SUM, absent under MAX and MIN. -/
def initialAccumulator : Operation → Option Int
  | .sum => some 0
  | .max => none
  | .min => none

/-- The remainder of the division of R5: x − t × 2^k for the quotient t truncated toward zero. -/
def shiftRemainder (x : Int) (k : Nat) : Int :=
  x - x.tdiv (2 ^ k) * 2 ^ k

/-- Division by 2^k under a rounding mode (R5; R15 with k = p). -/
def roundedShift (mode : Rounding) (x : Int) (k : Nat) : Int :=
  match mode with
  | .chop => x.tdiv (2 ^ k)
  | .nearest =>
    if (shiftRemainder x k).natAbs < 2 ^ (k - 1) then x.tdiv (2 ^ k)
    else if 0 < x then x.tdiv (2 ^ k) + 1
    else x.tdiv (2 ^ k) - 1

/-- The prescaled value of an element (R4 for 0..15, R5 for −16..−1). -/
def prescaled (mode : Rounding) (s : Int) (x : Int) : Int :=
  if 0 ≤ s then x * 2 ^ s.toNat else roundedShift mode x (-s).toNat

/-- Whether a prescale is a precision loss (R6): a negative prescale that leaves a nonzero remainder. -/
def prescaleLoses (s : Int) (x : Int) : Bool :=
  decide (s < 0) && shiftRemainder x (-s).toNat != 0

/-- The end of one element's treatment (R3): its effects recorded together, or one effective exception and none of its
effects. -/
inductive Treatment where
  | recorded (accumulator : Option Int) (tallies : Tallies)
  | raised (kind : ExceptionKind)
  deriving DecidableEq, Repr

/-- The exact sum of R8 settled by the overflow policy of R9. -/
def combineSum (policy : OverflowPolicy) (a v : Int) (t : Tallies) : Treatment :=
  let sum := a + v
  if -accumulatorMax ≤ sum ∧ sum ≤ accumulatorMax then
    .recorded (some sum) { t with combined := t.combined + 1 }
  else
    match policy with
    | .saturate =>
      .recorded (some (if accumulatorMax < sum then accumulatorMax else -accumulatorMax))
        { t with combined := t.combined + 1, saturations := t.saturations + 1 }
    | .wrap =>
      .recorded
        (some (if accumulatorMax < sum then sum - 2 ^ 48
          else if sum < -(2 ^ 47) then sum + 2 ^ 48
          else sum))
        { t with combined := t.combined + 1, wraps := t.wraps + 1 }
    | .trap => .raised .overflow

/-- The combine operation on a prescaled value (R8 to R10). Under SUM the accumulator is always present (R7). -/
def combineValue (settings : CombineSettings) (accumulator : Option Int) (v : Int) (t : Tallies) : Treatment :=
  match settings.operation with
  | .sum => combineSum settings.overflow (accumulator.getD 0) v t
  | .max =>
    .recorded (some (match accumulator with | none => v | some a => if a < v then v else a))
      { t with combined := t.combined + 1 }
  | .min =>
    .recorded (some (match accumulator with | none => v | some a => if v < a then v else a))
      { t with combined := t.combined + 1 }

/-- The treatment of one element whose read was answered OK (R2, R3, R6): VOID test, prescale, combine, in that order. -/
def treatElement (settings : CombineSettings) (format : ElementFormat) (prescale : Int)
    (accumulator : Option Int) (t : Tallies) (x : Int) : Treatment :=
  if x = elementVoid format then
    match settings.voidPolicy with
    | .skip => .recorded accumulator { t with voids := t.voids + 1 }
    | .trap => .raised .voidOperand
  else if prescaleLoses prescale x then
    if settings.precisionReporting then .raised .precision
    else combineValue settings accumulator (prescaled settings.rounding prescale x) { t with losses := t.losses + 1 }
  else combineValue settings accumulator (prescaled settings.rounding prescale x) t

/-- The treatment of the head element from its answer: R3 for OK, R106 for ERROR and TIMEOUT. -/
def treatAnswer (settings : CombineSettings) (format : ElementFormat) (prescale : Int)
    (accumulator : Option Int) (t : Tallies) (address : Addr) (size : Nat) : Answer → Treatment
  | .ok data => treatElement settings format prescale accumulator t (elementBytes data address size)
  | .error => .raised .busError
  | .timeout => .raised .busTimeout

/-- The largest result of an output width (R16). The range is symmetric. -/
def widthMax : OutputWidth → Int
  | .w32 => 2 ^ 31 - 1
  | .w48 => 2 ^ 47 - 1

/-- The VOID value of an output width (R16). -/
def widthVoid : OutputWidth → Int
  | .w32 => -(2 ^ 31)
  | .w48 => -(2 ^ 47)

/-- The end of the output stage (R14): a result value with the tallies it leaves (`value` none is the VOID result of an
empty MAX or MIN round, R17), or an effective exception. -/
inductive StageEnd where
  | result (value : Option Int) (tallies : Tallies)
  | raised (kind : ExceptionKind)
  deriving DecidableEq, Repr

/-- The range check of R16 on a shifted value. -/
def rangeCheck (settings : Settings) (x : Int) (t : Tallies) : StageEnd :=
  if -(widthMax settings.width) ≤ x ∧ x ≤ widthMax settings.width then .result (some x) t
  else
    match settings.output with
    | .saturate =>
      .result (some (if widthMax settings.width < x then widthMax settings.width else -(widthMax settings.width)))
        { t with saturations := t.saturations + 1 }
    | .trap => .raised .resultRange

/-- The output stage on the committed accumulator and tallies (R14 to R17). -/
def outputStage (settings : Settings) (accumulator : Option Int) (t : Tallies) : StageEnd :=
  match accumulator with
  | none => .result none t
  | some a =>
    if settings.postShift = 0 then rangeCheck settings a t
    else if shiftRemainder a settings.postShift = 0 then
      rangeCheck settings (roundedShift settings.combine.rounding a settings.postShift) t
    else if settings.combine.precisionReporting then .raised .precision
    else rangeCheck settings (roundedShift settings.combine.rounding a settings.postShift)
      { t with losses := t.losses + 1 }

/-- A result as a 64-bit value, sign-extended from the output width, VOID as the width's VOID value (R18). -/
def resultBits (width : OutputWidth) (value : Option Int) : BitVec 64 :=
  BitVec.ofInt 64 (value.getD (widthVoid width))

end Sys2Proof.Machine
end

