-- ==== Sys2Proof/Machine/Flags.lean ====
section
/-! DEFINITION. The flags of a round (R19), the kinds an entry puts into the error latch (R160), the level of the
notification line (R162), and the numeric codes of section 10.3 and section 10.6. -/

namespace Sys2Proof.Machine

/-- The five flags from the committed tallies when the round's result is set (R19). -/
def roundFlags (outcome : Option RoundOutcome) (t : Tallies) : RoundFlags :=
  { empty := decide (outcome = some .complete) && t.combined == 0
    saturated := decide (1 ≤ t.saturations)
    voidsSkipped := decide (1 ≤ t.voids)
    wrapped := decide (1 ≤ t.wraps)
    precisionLost := decide (1 ≤ t.losses) }

/-- The flags as bits 4:0 of the flags byte (section 10.6). -/
def flagBits (f : RoundFlags) : Nat :=
  bit f.empty + 2 * bit f.saturated + 4 * bit f.voidsSkipped + 8 * bit f.wrapped + 16 * bit f.precisionLost

/-- The flags of a cell that holds no result: none set. -/
def noFlags : RoundFlags :=
  { empty := false, saturated := false, voidsSkipped := false, wrapped := false, precisionLost := false }

/-- The error-latch kind of an outcome (R160, section 10.6): FAULTED 0, EXPIRED 1, ABORTED 2, LOST 3. -/
def outcomeLatch : Option RoundOutcome → LatchSet
  | some .faulted => 0b00001
  | some .expired => 0b00010
  | some .aborted => 0b00100
  | some .lost => 0b01000
  | some .complete => 0
  | none => 0

/-- The error-latch kind of a publication status (R160): WRITE_FAILED 4. -/
def publicationLatch : Option PublicationStatus → LatchSet
  | some .writeFailed => 0b10000
  | some .written => 0
  | some .notWritten => 0
  | none => 0

/-- The kinds the error latch gains when an entry is entered (R160): nothing from a REPORT. -/
def entryLatch : Entry → LatchSet
  | .notice n => outcomeLatch n.outcome ||| publicationLatch n.publication
  | .report _ => 0

/-- The level of the notification line (R162). -/
def lineLevel (q : CompletionQueue) (p : HostPort) : Bool :=
  (!q.entries.isEmpty && p.completionEnable) || (decide (q.latch ≠ 0) && p.errorEnable)

/-- Status codes (section 10.3). -/
def statusNumber : StatusCode → Nat
  | .none => 0
  | .accepted => 1
  | .unknownCommand => 2
  | .badField => 3
  | .badShape => 4
  | .badAlign => 5
  | .cellBusy => 6
  | .cellFree => 7
  | .wrongRound => 8
  | .roundClosed => 9
  | .notOpener => 10
  | .notParticipant => 11
  | .duplicate => 12
  | .queueFull => 13
  | .hostQuota => 14
  | .noCredit => 15
  | .strideBusy => 16
  | .notHeld => 17

/-- Outcome codes, 0 when absent (section 10.6). -/
def outcomeNumber : Option RoundOutcome → Nat
  | none => 0
  | some .complete => 1
  | some .faulted => 2
  | some .expired => 3
  | some .aborted => 4
  | some .lost => 5

/-- Contribution-status codes (section 10.6); a notice never carries pending (R156), which the table gives no code. -/
def contributionNumber : Option ContributionStatus → Nat
  | none => 0
  | some .pending => 0
  | some .walked => 1
  | some .faulting => 2
  | some .cut => 3
  | some .absorbed => 4
  | some .dropped => 5

/-- Publication-status codes (section 10.6). -/
def publicationNumber : Option PublicationStatus → Nat
  | none => 0
  | some .written => 1
  | some .writeFailed => 2
  | some .notWritten => 3

/-- Exception-kind codes (section 10.6). -/
def exceptionNumber : ExceptionKind → Nat
  | .voidOperand => 1
  | .precision => 2
  | .overflow => 3
  | .resultRange => 4
  | .busError => 5
  | .busTimeout => 6

/-- Cell-state codes (section 10.6); none is FREE. -/
def stateNumber : Option Phase → Nat
  | none => 0
  | some .collecting => 1
  | some .absorbing => 2
  | some .draining => 3
  | some .publishing => 4
  | some .held => 5

/-- View codes (section 10.4). -/
def viewNumber : StatusView → Nat
  | .command => 0
  | .value => 1
  | .queue => 2

end Sys2Proof.Machine
end

