-- ==== Sys2Proof/Machine/Operands.lean ====
section
/-! DEFINITION. The operand forms: the fields of every command's words (section 10.2), the port's checks of them (R140,
R168), the descriptor's checks (R69 to R73), the address generator (R72 to R79) and the PORT CONTROL fields (R143). -/

namespace Sys2Proof.Machine

/-! ### Command codes, lengths and the port's checks -/

/-- The command code, bits 31:28 of a first word (R167). -/
def commandCode (word : Word) : Nat :=
  bitField word 31 28

/-- The length in words of each command code, none for a code that names no command (R137, R167). -/
def codeLength : Nat → Option Nat
  | 1 => some 4
  | 2 => some 5
  | 3 => some 1
  | 4 => some 1
  | 5 => some 1
  | 6 => some 1
  | 7 => some 2
  | 8 => some 1
  | _ => none

/-- The bits marked reserved in word `index` of the command with this code (section 10.2, R168). -/
def reservedMask (code index : Nat) : Word :=
  match code, index with
  | 1, 0 => 0x01C0FFF0
  | 1, 1 => 0x00000FFF
  | 1, 2 => 0xFFFF0000
  | 2, 0 => 0x01C00000
  | 2, 2 => 0x0C000003
  | 2, 3 => 0x0000007F
  | 2, 4 => 0x003FFFFF
  | 3, 0 => 0x01C00000
  | 4, 0 => 0x00C00000
  | 5, 0 => 0x01C0FFFF
  | 6, 0 => 0x01C0FFFF
  | 7, 0 => 0x01FFFFF0
  | 8, 0 => 0x01FFFFF0
  | _, _ => 0

/-- The index of the first word, from `index` on, that holds a reserved bit that is 1 (R168). -/
def reservedFault (code : Nat) : List Word → Nat → Option Nat
  | [], _ => none
  | word :: rest, index =>
    if word &&& reservedMask code index = 0 then reservedFault code rest (index + 1) else some index

/-- The port's checks of a complete command (R140): the declared length, then the reserved fields. The answer is the
index of the first word found at fault. -/
def portCheck (words : List Word) : Option Nat :=
  let first := words.getD 0 0
  if codeLength (commandCode first) = some (bitField first 27 25) then reservedFault (commandCode first) words 0
  else some 0

/-! ### The fields of the commands (section 10.2) -/

/-- The cell a Cell Table command names, bits 21:16 of its first word. -/
def commandCell (words : List Word) : CellId :=
  Fin.ofNat 64 (bitField (words.getD 0 0) 21 16)

/-- The round a CONTRIBUTE, WAIT or ABORT names, bits 15:0 of its first word. -/
def commandRound (words : List Word) : RoundNumber :=
  BitVec.ofNat 16 (bitField (words.getD 0 0) 15 0)

/-- The FINAL flag of ABORT, bit 24. -/
def abortFinal (words : List Word) : Bool :=
  bitSet (words.getD 0 0) 24

/-- The entry a SET_STRIDE or READ_STRIDE names, bits 3:0 of its first word. -/
def commandEntry (words : List Word) : StrideId :=
  Fin.ofNat 16 (bitField (words.getD 0 0) 3 0)

/-- The value of a SET_STRIDE, its second word as a signed number. -/
def strideOperand (words : List Word) : Int :=
  (words.getD 1 0).toInt

/-- The operation an encoding names, none for a refused one (R170). -/
def decodeOperation : Nat → Option Operation
  | 0 => some .sum
  | 1 => some .max
  | 2 => some .min
  | _ => none

/-- The overflow policy an encoding names (R170). -/
def decodeOverflow : Nat → Option OverflowPolicy
  | 0 => some .saturate
  | 1 => some .wrap
  | 2 => some .trap
  | _ => none

/-- The output policy an encoding names; 1, WRAP, is refused (R26, R170). -/
def decodeOutput : Nat → Option OutputPolicy
  | 0 => some .saturate
  | 2 => some .trap
  | _ => none

/-- The rounding mode an encoding names (R170). -/
def decodeRounding : Nat → Option Rounding
  | 0 => some .chop
  | 1 => some .nearest
  | _ => none

/-- The VOID policy an encoding names (R170). -/
def decodeVoid : Nat → Option VoidPolicy
  | 0 => some .skip
  | 1 => some .trap
  | _ => none

/-- The output width an encoding names (R170). -/
def decodeWidth : Nat → Option OutputWidth
  | 0 => some .w32
  | 1 => some .w48
  | _ => none

/-- The settings of an OPEN from its second word; none when any of them holds a value outside its set (R26 step 1). -/
def decodeSettings (word : Word) : Option Settings :=
  match decodeOperation (bitField word 31 30), decodeOverflow (bitField word 29 28),
      decodeOutput (bitField word 27 26), decodeRounding (bitField word 25 24), decodeVoid (bitField word 23 22),
      decodeWidth (bitField word 20 19) with
  | some operation, some overflow, some output, some rounding, some voidPolicy, some width =>
    if bitField word 18 14 ≤ 16 then
      some
        { combine :=
            { operation := operation, overflow := overflow, voidPolicy := voidPolicy, rounding := rounding
              precisionReporting := bitSet word 21 }
          output := output, width := width, postShift := bitField word 18 14 }
    else none
  | _, _, _, _, _, _ => none

/-- The fields of an OPEN. -/
structure OpenFields where
  cell : CellId
  participants : HostSet
  settings : Option Settings
  repeats : Bool
  timeout : Nat
  destination : Option Addr
  deriving DecidableEq, Repr

/-- The fields of an OPEN from its four words (section 10.2, OPEN). -/
def decodeOpen (words : List Word) : OpenFields :=
  { cell := commandCell words
    participants := BitVec.ofNat 4 (bitField (words.getD 0 0) 3 0)
    settings := decodeSettings (words.getD 1 0)
    repeats := bitSet (words.getD 1 0) 13
    timeout := bitField (words.getD 2 0) 15 0
    destination := if bitSet (words.getD 1 0) 12 then some (words.getD 3 0) else none }

/-- The fields of a CONTRIBUTE as written; `format` is none for the refused encoding 3 (R170). -/
structure ContributeFields where
  cell : CellId
  round : RoundNumber
  base : Addr
  format : Option ElementFormat
  dims : Nat
  inner : Nat
  middle : Nat
  outer : Nat
  step : Int
  middleEntry : StrideId
  outerEntry : StrideId
  prescale : Int
  priority : Nat
  hold : Bool
  deriving DecidableEq, Repr

/-- The element format an encoding names (section 10.2, CONTRIBUTE). -/
def decodeFormat : Nat → Option ElementFormat
  | 0 => some .s8
  | 1 => some .s16
  | 2 => some .s32
  | _ => none

/-- The fields of a CONTRIBUTE from its five words (section 10.2, CONTRIBUTE). -/
def decodeContribute (words : List Word) : ContributeFields :=
  { cell := commandCell words
    round := commandRound words
    base := words.getD 1 0
    format := decodeFormat (bitField (words.getD 2 0) 31 30)
    dims := bitField (words.getD 2 0) 29 28
    inner := bitField (words.getD 2 0) 25 13
    middle := bitField (words.getD 2 0) 12 2
    outer := bitField (words.getD 3 0) 31 23
    step := signedField (words.getD 3 0) 22 15
    middleEntry := Fin.ofNat 16 (bitField (words.getD 3 0) 14 11)
    outerEntry := Fin.ofNat 16 (bitField (words.getD 3 0) 10 7)
    prescale := signedField (words.getD 4 0) 31 26
    priority := bitField (words.getD 4 0) 25 23
    hold := bitSet (words.getD 4 0) 22 }

/-- Every BAD_FIELD condition of CONTRIBUTE's first step (R28 step 1, R70, R170) but the format's. -/
def contributeBadField (f : ContributeFields) : Bool :=
  decide (f.dims = 0) || decide (3 < f.dims)
    || decide (f.inner = 0) || decide (4096 < f.inner)
    || decide (f.middle = 0) || decide (1024 < f.middle)
    || decide (f.outer = 0) || decide (256 < f.outer)
    || (decide (f.middleEntry ≠ 0) && decide (f.dims = 1))
    || (decide (f.outerEntry ≠ 0) && (decide (f.dims = 1) || decide (f.dims = 2)))
    || decide (f.prescale < -16) || decide (15 < f.prescale)
    || decide (3 < f.priority)

/-- The BAD_SHAPE conditions (R71). -/
def contributeBadShape (f : ContributeFields) : Bool :=
  (decide (f.dims = 1) && decide (f.middle ≠ 1))
    || ((decide (f.dims = 1) || decide (f.dims = 2)) && decide (f.outer ≠ 1))
    || decide (16777216 < f.inner * f.middle * f.outer)

/-- The walk descriptor of a CONTRIBUTE whose format is known (R67). -/
def contributeDescriptor (f : ContributeFields) (format : ElementFormat) : Descriptor :=
  { base := f.base, format := format, dims := f.dims, inner := f.inner, middle := f.middle, outer := f.outer
    step := f.step, middleEntry := f.middleEntry, outerEntry := f.outerEntry }

/-- The namings of a descriptor by its fields in use (R69, R88): none, one entry, two, or one entry twice. -/
def namings (d : Descriptor) : List StrideId :=
  if d.dims = 2 then [d.middleEntry]
  else if d.dims = 3 then [d.middleEntry, d.outerEntry]
  else []

/-- The number of elements of a walk (R72). -/
def elementCount (d : Descriptor) : Nat :=
  d.inner * d.middle * d.outer

/-- Whether the base or the value of a named entry is misaligned (R73, R28 step 7). -/
def misaligned (strides : Vector StrideEntry 16) (d : Descriptor) : Bool :=
  decide (d.base.toNat % elementSize d.format ≠ 0)
    || (namings d).any (fun e => decide (strides[e].value % (elementSize d.format : Int) ≠ 0))

/-! ### The address generator (section 4.4) -/

/-- The generator of a walk at dispatch (R78). -/
def startGenerator (d : Descriptor) : Generator :=
  { address := d.base, inner := 0, middle := 0, outer := 0, exhausted := false }

/-- The element index of the current positions (R72). -/
def generatorIndex (d : Descriptor) (g : Generator) : Nat :=
  (g.outer * d.middle + g.middle) * d.inner + g.inner

/-- An address with a signed byte distance added, modulo 2^32 (R75). -/
def offsetAddress (address : Addr) (distance : Int) : Addr :=
  address + BitVec.ofInt 32 distance

/-- The generator after handing over an element (R74, R79). The stride values are those the table holds at the jump
(R93). -/
def advanceGenerator (strides : Vector StrideEntry 16) (d : Descriptor) (g : Generator) : Generator :=
  if g.exhausted then g
  else if g.inner + 1 < d.inner then
    { g with address := offsetAddress g.address (d.step * elementSize d.format), inner := g.inner + 1 }
  else if g.middle + 1 < d.middle then
    { g with
      address := offsetAddress g.address strides[d.middleEntry].value
      inner := 0, middle := g.middle + 1 }
  else if g.outer + 1 < d.outer then
    { g with
      address := offsetAddress g.address strides[d.outerEntry].value
      inner := 0, middle := 0, outer := g.outer + 1 }
  else { g with exhausted := true }

/-! ### PORT CONTROL (section 10.4, R143, R172) -/

/-- RESET, bit 31. -/
def controlReset (word : Word) : Bool :=
  bitSet word 31

/-- DISCARD, bit 30. -/
def controlDiscard (word : Word) : Bool :=
  bitSet word 30

/-- The ACK set, bits 4:0. -/
def controlAck (word : Word) : LatchSet :=
  BitVec.ofNat 5 (bitField word 4 0)

/-- Set enables, bit 8. -/
def controlSetsEnables (word : Word) : Bool :=
  bitSet word 8

/-- The completion notify enable, bit 9. -/
def controlCompletion (word : Word) : Bool :=
  bitSet word 9

/-- The error notify enable, bit 10. -/
def controlError (word : Word) : Bool :=
  bitSet word 10

/-- Select view, bit 12. -/
def controlSelectsView (word : Word) : Bool :=
  bitSet word 12

/-- The view of bits 14:13; encoding 3 names no view (R172). -/
def controlView (word : Word) : Option StatusView :=
  match bitField word 14 13 with
  | 0 => some .command
  | 1 => some .value
  | 2 => some .queue
  | _ => none

/-! ### The memory request tag (section 10.8) and the frequency selection (R175) -/

/-- The slot number of a tag, bits 4:0, none for 17..31 (R119). -/
def tagSlot (tag : BitVec 10) : Option SlotId :=
  if h : tag.toNat % 32 < 17 then some ⟨tag.toNat % 32, h⟩ else none

/-- The sequence number of a tag, bits 8:5. -/
def tagSequence (tag : BitVec 10) : BitVec 4 :=
  BitVec.ofNat 4 (tag.toNat / 32)

/-- The epoch bit of a tag, bit 9. -/
def tagEpoch (tag : BitVec 10) : Bool :=
  tag.getLsbD 9

/-- A tag from its three parts (R117, section 10.8). -/
def makeTag (slot : SlotId) (sequence : BitVec 4) (epoch : Bool) : BitVec 10 :=
  BitVec.ofNat 10 (slot.val + 32 * sequence.toNat + 512 * bit epoch)

/-- The clock periods in one tick that the strapping inputs select: whole megahertz, held to 20..100 (R175). -/
def selectedPeriods (straps : BitVec 7) : Nat :=
  if straps.toNat < 20 then 20 else if 100 < straps.toNat then 100 else straps.toNat

end Sys2Proof.Machine
end

