-- ==== Sys2Proof/Machine/Layouts.lean ====
section
/-! DEFINITION. The words and records the part returns (chapter 10): completion entries (section 10.5, R155 to R157,
R173), synchronous status values (R169, R171), the PORT STATUS views (section 10.4, R142), the halves of a publication
record (R128, section 10.7). -/

namespace Sys2Proof.Machine

/-- Bits 31:0 of a 64-bit value. -/
def lowWord (x : BitVec 64) : Word :=
  x.setWidth 32

/-- Bits 63:32 of a 64-bit value. -/
def highWord (x : BitVec 64) : Word :=
  (x >>> 32).setWidth 32

/-- The two fault-record words, present exactly when a record is (R155, R173). -/
def faultWords : Option FaultRecord → List Word
  | none => []
  | some f =>
    match f.element with
    | none => [packFields [(31, 28, exceptionNumber f.kind)], 0]
    | some e =>
      [packFields [(31, 28, exceptionNumber f.kind), (27, 27, 1), (26, 25, e.host.val), (23, 0, e.index)], e.address]

/-- The words of a CONTRIBUTION_END or WAIT_END (section 10.5). -/
def noticeWords (n : Notice) : List Word :=
  let fault := faultWords n.fault
  let kind := match n.kind with | .contributionEnd _ => 1 | .waitEnd => 2
  let status := match n.kind with | .contributionEnd status => contributionNumber status | .waitEnd => 0
  [ packFields
      [(31, 28, kind), (27, 22, n.cell.val), (21, 19, outcomeNumber n.outcome), (18, 16, status),
        (12, 8, flagBits n.flags), (3, 0, 6 + fault.length)],
    packFields [(17, 16, publicationNumber n.publication), (15, 0, n.number.toNat)],
    lowWord n.result, highWord n.result, BitVec.ofNat 32 n.combined, BitVec.ofNat 32 n.voids ] ++ fault

/-- The state of a cell (R22): its phase, none for FREE. -/
def cellPhase (cell : Cell) : Option Phase :=
  cell.round.map (·.phase)

/-- The ten first words of a REPORT of a cell that is not FREE (section 10.5, R157, R173). -/
def openReportWords (c : CellId) (number : RoundNumber) (r : Round) (length : Nat) : List Word :=
  let value : BitVec 64 := BitVec.ofInt 64 (r.accumulator.getD 0)
  [ packFields
      [(31, 28, 3), (27, 22, c.val), (21, 19, stateNumber (some r.phase)), (18, 16, outcomeNumber r.outcome),
        (15, 15, 1), (14, 13, r.opener.val), (12, 12, bit r.walkInFlight.isSome), (11, 11, bit r.accumulator.isSome),
        (3, 0, length)],
    packFields
      [(27, 24, r.arrived.toNat), (23, 20, r.posted.toNat), (19, 16, r.participants.toNat), (15, 0, number.toNat)],
    lowWord value, highWord value,
    BitVec.ofNat 32 r.tallies.combined, BitVec.ofNat 32 r.tallies.voids, BitVec.ofNat 32 r.tallies.saturations,
    BitVec.ofNat 32 r.tallies.wraps, BitVec.ofNat 32 r.tallies.losses,
    packFields [(15, 0, r.deadline)] ]

/-- The words of a REPORT (section 10.5). A FREE cell is reported with its state and round, everything else 0 (R157). -/
def reportWords (s : Snapshot) : List Word :=
  match s.record.round with
  | none =>
    [ packFields [(31, 28, 3), (27, 22, s.cell.val), (3, 0, 10)], packFields [(15, 0, s.record.number.toNat)],
      0, 0, 0, 0, 0, 0, 0, 0 ]
  | some r =>
    openReportWords s.cell s.record.number r (10 + (faultWords r.fault).length) ++ faultWords r.fault

/-- The words of a completion entry, first word first. -/
def entryWords : Entry → List Word
  | .notice n => noticeWords n
  | .report s => reportWords s

/-! ### Synchronous status values (R169, R171) -/

/-- The value of a port's BAD_FIELD: bit 31 set, the word index in bits 2:0 (R169). -/
def portFaultValue (index : Nat) : Word :=
  packFields [(31, 31, 1), (2, 0, index)]

/-- A round number as a status value. -/
def roundValue (number : RoundNumber) : Word :=
  packFields [(15, 0, number.toNat)]

/-- The last-writer bits 26:24 of a SET_STRIDE value, 0 when the last writer is none. -/
def writerFields : Option HostId → List (Nat × Nat × Nat)
  | none => []
  | some h => [(26, 26, 1), (25, 24, h.val)]

/-- The value of SET_STRIDE ACCEPTED or BAD_FIELD: entry value and last writer. -/
def strideValueStatus (e : StrideEntry) : Word :=
  packFields ((23, 0, signedPattern 24 e.value) :: writerFields e.writer)

/-- The value of SET_STRIDE STRIDE_BUSY: reference count and last writer. -/
def strideBusyStatus (e : StrideEntry) : Word :=
  packFields ((23, 0, e.count) :: writerFields e.writer)

/-- The value of READ_STRIDE: entry value and reference count. -/
def strideReadStatus (e : StrideEntry) : Word :=
  packFields [(30, 24, e.count), (23, 0, signedPattern 24 e.value)]

/-! ### PORT STATUS (R142, section 10.4) -/

/-- The framing-state code (section 10.4). -/
def framingNumber : Framing → Nat
  | .empty => 0
  | .assembling _ _ => 1
  | .delivering _ _ => 2

/-- The number of words held in the assembly buffer (R138): a command in DELIVERING has left it. -/
def wordsHeld : Framing → Nat
  | .empty => 0
  | .assembling words _ => words.length
  | .delivering _ _ => 0

/-- The expected length, 0 for none (R136). -/
def expectedLength : Framing → Nat
  | .empty => 0
  | .assembling _ expected => expected
  | .delivering words _ => words.length

/-- The COMMAND view. -/
def commandViewWord (p : HostPort) : Word :=
  packFields
    [(24, 23, viewNumber p.view), (22, 22, bit p.lineHeld), (21, 21, bit (decide (0 < p.awaited))),
      (20, 18, expectedLength p.framing), (17, 15, wordsHeld p.framing), (14, 13, framingNumber p.framing),
      (12, 8, statusNumber p.lastCode), (7, 0, p.ticket.toNat)]

/-- The QUEUE view. -/
def queueViewWord (p : HostPort) (q : CompletionQueue) : Word :=
  packFields
    [(25, 24, viewNumber p.view), (23, 23, bit q.line), (22, 22, bit p.errorEnable), (21, 21, bit p.completionEnable),
      (20, 16, q.latch.toNat), (15, 12, q.cursor), (11, 6, q.reservations), (5, 0, q.entries.length)]

/-- The word a read of PORT STATUS returns in the state `s` (R142). The read changes nothing, so no row stands for it. -/
def portStatusWord (s : State) (h : HostId) : Word :=
  match s.ports[h].view with
  | .command => commandViewWord s.ports[h]
  | .value => s.ports[h].lastValue
  | .queue => queueViewWord s.ports[h] s.queues[h]

/-- The locations of the port window (section 10.1). -/
inductive PortLocation where
  | command
  | response
  | portStatus
  | portControl
  deriving DecidableEq, Repr

/-- The location at a location address (section 10.1). -/
def locationAt (address : BitVec 2) : PortLocation :=
  match address.toNat with
  | 0 => .command
  | 1 => .response
  | 2 => .portStatus
  | _ => .portControl

/-- The word of RESPONSE that the next read returns: the head entry's word at the read cursor (R158), or the NONE word
when no entry is held (R159), the reset line is held (R147) or the device reset input is asserted (R151). -/
def responseWord (s : State) (h : HostId) : Word :=
  if s.ports[h].lineHeld || s.deviceReset then 0
  else
    match s.queues[h].entries with
    | [] => 0
    | e :: _ => (entryWords e).getD s.queues[h].cursor 0

/-- The word a read of a location returns (R135): zeros at COMMAND and PORT CONTROL. -/
def locationWord (s : State) (h : HostId) : PortLocation → Word
  | .command => 0
  | .response => responseWord s h
  | .portStatus => portStatusWord s h
  | .portControl => 0

/-! ### The publication record (R128, section 10.7) and read byte enables (R115) -/

/-- Bytes 0–7 of the record, byte j in bits 8j+7 to 8j: the result. -/
def recordFirstHalf (r : Round) : DataUnit :=
  resultBits r.settings.width (r.result.bind (·.value))

/-- Bytes 8–15 of the record: elements combined, round number, outcome, flags. -/
def recordSecondHalf (number : RoundNumber) (r : Round) : DataUnit :=
  BitVec.ofNat 64
    (r.tallies.combined % 2 ^ 32 + number.toNat * 2 ^ 32 + outcomeNumber r.outcome * 2 ^ 48
      + flagBits ((r.result.map (·.flags)).getD noFlags) * 2 ^ 56)

/-- The byte enables of an element read: the bytes from the address's offset within its unit (R115). -/
def readEnables (address : Addr) (size : Nat) : BitVec 8 :=
  BitVec.ofNat 8 ((2 ^ size - 1) * 2 ^ (address.toNat % 8))

/-- An address with its three lowest bits cleared (R115). -/
def unitAddress (address : Addr) : Addr :=
  address &&& ~~~7

end Sys2Proof.Machine
end

