-- ==== Sys2Proof/Machine/Ops.lean ====
section
/-! DEFINITION. The named operations over the part's state: writing one record of a table, completion queues and their
line, stride references, the Pending Queue's list, the Publication Queue, the tag table and the Timebase. -/

namespace Sys2Proof.Machine

/-! ### Writing one record -/

/-- Write the record of one port. -/
def State.putPort (s : State) (h : HostId) (p : HostPort) : State :=
  { s with ports := s.ports.set h p }

/-- Write one completion queue; its notification line takes the level of R162 in the same event. -/
def State.putQueue (s : State) (h : HostId) (q : CompletionQueue) : State :=
  { s with queues := s.queues.set h { q with line := lineLevel q s.ports[h] } }

/-- Re-evaluate a notification line after a change of the port's enables (R162). -/
def State.refreshLine (s : State) (h : HostId) : State :=
  s.putQueue h s.queues[h]

/-- Write one cell. -/
def State.putCell (s : State) (c : CellId) (cell : Cell) : State :=
  { s with cells := s.cells.set c cell }

/-- Write the record of a cell that is not FREE; its round number is kept (R23). -/
def State.putRound (s : State) (c : CellId) (r : Round) : State :=
  s.putCell c { number := s.cells[c].number, round := some r }

/-- Write one walk unit. -/
def State.putUnit (s : State) (w : UnitId) (u : WalkUnit) : State :=
  { s with units := s.units.set w u }

/-- Write one stride entry. -/
def State.putStride (s : State) (e : StrideId) (entry : StrideEntry) : State :=
  { s with strides := s.strides.set e entry }

/-- Write one tag slot. -/
def State.putSlot (s : State) (t : SlotId) (slot : TagSlot) : State :=
  { s with slots := s.slots.set t slot }

/-! ### Completion queues (chapter 9) -/

/-- Entries held plus reservations (R152, R153). -/
def placesTaken (q : CompletionQueue) : Nat :=
  q.entries.length + q.reservations

/-- Whether a queue has no free place: entries held plus reservations equal 32 (R28 step 10, R152). -/
def noCredit (q : CompletionQueue) : Bool :=
  decide (32 ≤ placesTaken q)

/-- Add one reservation (R153). -/
def State.reserve (s : State) (h : HostId) : State :=
  s.putQueue h { s.queues[h] with reservations := s.queues[h].reservations + 1 }

/-- A notice or a REPORT reaches a queue (R154): one reservation becomes the entry at the tail, and the latch gains the
entry's kinds (R160); with no reservation nothing changes. -/
def State.enter (s : State) (h : HostId) (e : Entry) : State :=
  if s.queues[h].reservations = 0 then s
  else
    s.putQueue h
      { s.queues[h] with
        reservations := s.queues[h].reservations - 1
        entries := s.queues[h].entries ++ [e]
        latch := s.queues[h].latch ||| entryLatch e }

/-- A read of RESPONSE on a queue with entries held (R158): the cursor moves on, or the head entry is freed after its
last word. -/
def readQueue (q : CompletionQueue) : CompletionQueue :=
  match q.entries with
  | [] => q
  | e :: rest =>
    if q.cursor + 1 < (entryWords e).length then { q with cursor := q.cursor + 1 }
    else { q with entries := rest, cursor := 0 }

/-! ### Stride references (R88, R89) -/

/-- Change one entry's reference count. -/
def adjustCount (f : Nat → Nat) (strides : Vector StrideEntry 16) (e : StrideId) : Vector StrideEntry 16 :=
  strides.set e { strides[e] with count := f strides[e].count }

/-- Each naming adds 1 to its entry's count (R88). -/
def bindRefs (refs : List StrideId) (strides : Vector StrideEntry 16) : Vector StrideEntry 16 :=
  refs.foldl (adjustCount (· + 1)) strides

/-- Each naming subtracts 1 from its entry's count (R89). -/
def releaseRefs (refs : List StrideId) (strides : Vector StrideEntry 16) : Vector StrideEntry 16 :=
  refs.foldl (adjustCount (· - 1)) strides

/-! ### The Pending Queue (section 6.1) -/

/-- Insert after every entry of equal or higher priority and before every entry of lower priority (R95). -/
def insertContribution (e : Contribution) : List Contribution → List Contribution
  | [] => [e]
  | x :: rest => if e.priority ≤ x.priority then x :: insertContribution e rest else e :: x :: rest

/-- The insertion of an accepted contribution (R95): its host's count rises by one (R94), its namings are bound (R88). -/
def State.enqueue (s : State) (e : Contribution) : State :=
  { s with
    contributions := insertContribution e s.contributions
    hostCounts := s.hostCounts.set e.host (s.hostCounts[e.host] + 1)
    strides := bindRefs e.refs s.strides }

/-- One departure from the queue: the host's count falls by one (R96). -/
def countDeparture (counts : Vector Nat 4) (e : Contribution) : Vector Nat 4 :=
  counts.set e.host (counts[e.host] - 1)

/-- The removal of every entry that `leaves` (R97, R98): the rest keep their order, the stride references of the
departing entries are released (R96). -/
def State.removeContributions (s : State) (leaves : Contribution → Bool) : State :=
  { s with
    contributions := s.contributions.filter (fun e => !leaves e)
    hostCounts := (s.contributions.filter leaves).foldl countDeparture s.hostCounts
    strides := (s.contributions.filter leaves).foldl (fun strides e => releaseRefs e.refs strides) s.strides }

/-- The removal naming a cell (R97). -/
def State.removeCell (s : State) (c : CellId) : State :=
  s.removeContributions (fun e => decide (e.cell = c))

/-! ### The Publication Queue (R127, R128) -/

/-- The record the Publisher composes from a cell (R128); none for a cell that holds no round with a destination, which
no cell of the Publication Queue is (R127; log 17). -/
def composeRecord (c : CellId) (cell : Cell) : Option PublisherRecord :=
  match cell.round with
  | none => none
  | some r =>
    r.destination.map fun d =>
      { cell := c, destination := d, firstHalf := recordFirstHalf r
        secondHalf := recordSecondHalf cell.number r, step := .firstWrite, waiting := false }

/-- An idle Publisher with a nonempty queue takes the cell at the head (R127). -/
def State.takeHead (s : State) : State :=
  match s.publisher, s.publicationQueue with
  | none, c :: rest => { s with publicationQueue := rest, publisher := composeRecord c s.cells[c] }
  | _, _ => s

/-- A cell is appended to the Publication Queue (R38, R127). -/
def State.appendPublication (s : State) (c : CellId) : State :=
  State.takeHead { s with publicationQueue := s.publicationQueue ++ [c] }

/-! ### The tag table (section 7.2) -/

/-- Place k of walk unit w uses slot 4w + k (R102, R117). -/
def placeSlot (w : UnitId) (k : PlaceId) : SlotId :=
  ⟨4 * w.val + k.val, by omega⟩

/-- The Publisher's slot (R117). -/
def publisherSlot : SlotId :=
  16

/-- A request is issued on a slot (R115, R118): the sequence number increases, the timer starts with 200 ticks, and the
request leaves with the slot, the new sequence number and the epoch. The memory side takes it, and is then to become
ready to take another (R115; log 12). -/
def State.issue (s : State) (t : SlotId) (address : Addr) (enables : BitVec 8) (write : Bool)
    (data : Option DataUnit) : State :=
  { s.putSlot t { outstanding := true, sequence := s.slots[t].sequence + 1, timer := 200 } with
    memoryReady := false
    request := some
      { address := address, byteEnables := enables, write := write, data := data
        tag := makeTag t (s.slots[t].sequence + 1) s.epoch } }

/-- The tag table answers the request outstanding on a slot (R119, R120): the timer stops, the slot becomes FREE, the
answer is handed to the slot's owner. -/
def State.answerSlot (s : State) (t : SlotId) (a : Answer) : State :=
  { s.putSlot t { s.slots[t] with outstanding := false, timer := 0 } with answers := s.answers.set t (some a) }

/-- Whether a response's tag matches an outstanding request (R119), and on which slot. -/
def matchedSlot (s : State) (tag : BitVec 10) : Option SlotId :=
  match tagSlot tag with
  | none => none
  | some t =>
    if s.slots[t].outstanding = true ∧ s.slots[t].sequence = tagSequence tag ∧ tagEpoch tag = s.epoch then some t
    else none

/-- The answer of a memory response (R116). -/
def memAnswer : MemAnswer → Answer
  | .ok data => .ok data
  | .error => .error

/-- A slot's timer takes one tick (R120): a running timer decreases, and at 0 the request is answered TIMEOUT in the
same event; a timer that is not running is unchanged. -/
def State.slotTick (s : State) (t : SlotId) : State :=
  if s.slots[t].outstanding = false then s
  else if s.slots[t].timer ≤ 1 then s.answerSlot t .timeout
  else s.putSlot t { s.slots[t] with timer := s.slots[t].timer - 1 }

/-! ### The Timebase (section 11.1) -/

/-- The tick counter completes a microsecond: it returns to 0 and one tick is on its way to each of the 64 deadline
timers and 17 response timers (R174). -/
def State.issueTick (s : State) : State :=
  { s with
    tickCounter := 0
    deadlineTicks := s.deadlineTicks.map (· + 1)
    responseTicks := s.responseTicks.map (· + 1) }

/-- One clock period passes (R174): the tick counter counts 0 to periods−1 and a tick comes as it returns to 0. While
the device reset input is asserted it is held at 0 (R176). What step does on an empty queue (log 4). -/
def State.clockPeriod (s : State) : State :=
  if s.deviceReset then s
  else if s.tickCounter + 1 < s.periods then { s with tickCounter := s.tickCounter + 1 }
  else s.issueTick

end Sys2Proof.Machine
end

