-- ==== Sys2Proof/Machine/Walks.lean ====
section
/-! DEFINITION. Dispatch, the walk units and the arbiter (chapters 6 and 7): eligibility, the window and its head, the
treatment of elements in walk order, the end of a walk, read offers and the choice among them, and what an event makes
possible: the dispatches and the grant that are made in it. -/

namespace Sys2Proof.Machine

/-- An entry is eligible when its cell has no walk in flight (R99). Its cell holds a round (law L5). -/
def eligible (s : State) (e : Contribution) : Bool :=
  match s.cells[e.cell].round with
  | none => false
  | some r => r.walkInFlight.isNone

/-- A walk unit is free when it is IDLE (R99). -/
def unitFree (s : State) (w : UnitId) : Bool :=
  match s.units[w].mode with
  | .idle => true
  | .walking _ => false
  | .stopping => false

/-- The walk unit WALKING a contribution (R100 steps 2 to 5): its settings and working values copied from the cell's
round, its generator set up, its window empty. -/
def startWalk (e : Contribution) (r : Round) : WalkUnit :=
  { mode := .walking { contribution := e, settings := r.settings.combine }
    generator := some (startGenerator e.descriptor)
    window := Vector.replicate 4 none
    working := r.accumulator
    tallies := r.tallies }

/-- The dispatch of an eligible entry to a free unit (R100). The entry is the first eligible one. -/
def State.dispatchTo (s : State) (e : Contribution) (r : Round) (w : UnitId) : State :=
  { (s.putRound e.cell { r with walkInFlight := some w, inFlightHost := some e.host }).putUnit w (startWalk e r) with
    contributions := s.contributions.eraseP (eligible s)
    hostCounts := countDeparture s.hostCounts e }

/-! ### The window (R102, R105) -/

/-- Whether a place is outstanding: in use, its answer not yet taken (R102). -/
def placeOutstanding (p : Option Place) : Bool :=
  match p with
  | none => false
  | some place => place.answer.isNone

/-- A place that holds a taken answer is emptied (R110, R112). -/
def emptyAnswered (p : Option Place) : Option Place :=
  match p with
  | none => none
  | some place => if place.answer.isNone then some place else none

/-- The earlier in walk order of the best place so far and place `k` (R105). -/
def earlierPlace (window : Vector (Option Place) 4) (best : Option (PlaceId × Place)) (k : PlaceId) :
    Option (PlaceId × Place) :=
  match window[k], best with
  | none, _ => best
  | some p, none => some (k, p)
  | some p, some (_, q) => if p.index < q.index then some (k, p) else best

/-- The head of a window: the place in use with the lowest element index (R105). -/
def headPlace (window : Vector (Option Place) 4) : Option (PlaceId × Place) :=
  placeOrder.foldl (earlierPlace window) none

/-- Whether no place is in use. -/
def windowEmpty (window : Vector (Option Place) 4) : Bool :=
  placeOrder.all (fun k => window[k].isNone)

/-- Whether any place is outstanding. -/
def windowOutstanding (window : Vector (Option Place) 4) : Bool :=
  placeOrder.any (fun k => placeOutstanding window[k])

/-- How a run of treatments ends (R105): the walk goes on with these working values, or its head element raised an
effective exception. -/
inductive TreatEnd where
  | goesOn (working : Option Int) (tallies : Tallies) (window : Vector (Option Place) 4)
  | faulted (kind : ExceptionKind) (index : Nat) (address : Addr) (window : Vector (Option Place) 4)
  deriving DecidableEq, Repr

/-- Treat head elements in walk order while the head's answer has been taken (R105, R106); at most `fuel` of them, and a
window has four places. -/
def treatElements (walk : Walk) : Nat → Option Int → Tallies → Vector (Option Place) 4 → TreatEnd
  | 0, working, tallies, window => .goesOn working tallies window
  | fuel + 1, working, tallies, window =>
    match headPlace window with
    | none => .goesOn working tallies window
    | some (k, p) =>
      match p.answer with
      | none => .goesOn working tallies window
      | some a =>
        match treatAnswer walk.settings walk.contribution.descriptor.format walk.contribution.prescale working tallies
            p.address p.size a with
        | .raised kind => .faulted kind p.index p.address (window.set k none)
        | .recorded working' tallies' => treatElements walk fuel working' tallies' (window.set k none)

/-! ### The end of a walk (R107 to R113) -/

/-- A grant of a unit whose offer is withdrawn is marked so (R126, log 13). -/
def withdrawGrant (w : UnitId) (g : Grant) : Grant :=
  if g.requester = .walkUnit w then { g with withdrawn := true } else g

/-- A walk unit stops holding its contribution and sends the report (R107): stride references released (R89), answered
places emptied, the working values given up, the offer withdrawn (R123), the HOLD owner given up (R125), STOPPING while a
place is outstanding, else IDLE. The generator is left where it stands (R80). -/
def State.endWalk (s : State) (w : UnitId) (walk : Walk) (window : Vector (Option Place) 4) (kind : ReportKind) :
    State :=
  { s.putUnit w
      { mode := if windowOutstanding window then .stopping else .idle
        generator := s.units[w].generator
        window := window.map emptyAnswered
        working := none
        tallies := Tallies.zero } with
    strides := releaseRefs walk.contribution.refs s.strides
    holdOwner := if s.holdOwner = some w then none else s.holdOwner
    grant := s.grant.map (withdrawGrant w)
    walkReports := s.walkReports ++
      [{ cell := walk.contribution.cell, round := walk.contribution.round, host := walk.contribution.host
         unit := w, kind := kind }] }

/-- Whether a unit's generator is exhausted; one that holds no walk hands over nothing (R79). -/
def generatorExhausted (u : WalkUnit) : Bool :=
  match u.generator with
  | none => true
  | some g => g.exhausted

/-- A WALKING unit after it has recorded an answer in its window (R105): treatments, then FAULT (R110), DONE (R109), or
the walk goes on. -/
def State.advanceWalk (s : State) (w : UnitId) (walk : Walk) (window : Vector (Option Place) 4) : State :=
  match treatElements walk 4 s.units[w].working s.units[w].tallies window with
  | .faulted kind index address window' => s.endWalk w walk window' (.fault kind index address)
  | .goesOn working tallies window' =>
    if windowEmpty window' && generatorExhausted s.units[w] then s.endWalk w walk window' (.done working tallies)
    else s.putUnit w { s.units[w] with window := window', working := working, tallies := tallies }

/-- A cancel or a cut that finds the contribution held (R112, R113): a CUT report. It may be taken before the unit's first
grant, and that walk has then requested 0 reads, though R80 puts the reads requested between 1 and N: the model follows
R112, R113 and R126 (DESIGN CHOICE, log 21). -/
def State.cutWalk (s : State) (w : UnitId) (walk : Walk) : State :=
  s.endWalk w walk s.units[w].window .cut

/-- A STOPPING unit takes an answer (R111): its place empties, and the unit enters IDLE with its last place. -/
def State.drainPlace (s : State) (w : UnitId) (k : PlaceId) : State :=
  let window := s.units[w].window.set k none
  s.putUnit w { s.units[w] with mode := if windowEmpty window then .idle else .stopping, window := window }

/-! ### Offers and the arbiter (R103, R123, R124) -/

/-- The lowest-numbered empty place of a window (R103). -/
def emptyPlace (window : Vector (Option Place) 4) : Option PlaceId :=
  placeOrder.find? (fun k => window[k].isNone)

/-- The read a unit has ready (R103): it is WALKING, its generator is not exhausted, and a place is empty. -/
def readReady (u : WalkUnit) : Option (Walk × Generator × PlaceId) :=
  match u.mode, u.generator, emptyPlace u.window with
  | .walking walk, some g, some k => if g.exhausted then none else some (walk, g, k)
  | _, _, _ => none

/-- The priority of a unit's offer, none when it offers nothing (R123). -/
def offerPriority (u : WalkUnit) : Option Nat :=
  (readReady u).map (fun ready => ready.1.contribution.priority)

/-- Whether the Publisher's offer stands (R123, R129, R130). -/
def publisherOffers (s : State) : Bool :=
  match s.publisher with
  | none => false
  | some record => !record.waiting

/-- The winning priority, the highest among the walk units' offers (R124 step 2). -/
def winningPriority (s : State) : Option Nat :=
  unitOrder.foldl
    (fun best w =>
      match offerPriority s.units[w], best with
      | none, _ => best
      | some p, none => some p
      | some p, some b => some (Nat.max p b))
    none

/-- The order of the rotation: the unit after the pointer first, the pointer's own unit last (R124 step 4). -/
def rotationOrder (pointer : UnitId) : List UnitId :=
  [pointer + 1, pointer + 2, pointer + 3, pointer]

/-- Whether a unit's offer has the given priority. -/
def offersAt (s : State) (priority : Nat) (w : UnitId) : Bool :=
  decide (offerPriority s.units[w] = some priority)

/-- The HOLD owner if its offer stands at the winning priority (R124 step 3). -/
def holdClaim (s : State) (priority : Nat) : Option UnitId :=
  s.holdOwner.filter (offersAt s priority)

/-- The arbiter's choice among the offers that stand (R124). -/
def arbiterChoice (s : State) : Option Requester :=
  if publisherOffers s then some .publisher
  else
    match winningPriority s with
    | none => none
    | some priority =>
      match holdClaim s priority with
      | some w => some (.walkUnit w)
      | none => ((rotationOrder s.rotation).find? (offersAt s priority)).map .walkUnit

/-- A walk unit issues its ready read (R103, R115, R125, R126): the element enters the lowest empty place, the request
leaves on that place's slot, the generator advances, the rotation pointer and the HOLD owner follow. -/
def State.issueRead (s : State) (w : UnitId) (walk : Walk) (g : Generator) (k : PlaceId) : State :=
  let d := walk.contribution.descriptor
  let place : Place :=
    { index := generatorIndex d g, address := g.address, size := elementSize d.format, answer := none }
  { (s.putUnit w
        { s.units[w] with
          generator := some (advanceGenerator s.strides d g)
          window := s.units[w].window.set k (some place) }).issue (placeSlot w k) (unitAddress g.address)
      (readEnables g.address (elementSize d.format)) false none with
    grant := none
    rotation := w
    holdOwner := if walk.contribution.hold then some w else none }

/-! ### What an event makes possible (R99, R124) -/

/-- The grant that is due (R124): the memory side is ready, no grant waits to be taken, and an offer stands. -/
def State.makeGrant (s : State) : State :=
  if s.memoryReady && s.grant.isNone then
    { s with grant := (arbiterChoice s).map (fun requester => { requester := requester, withdrawn := false }) }
  else s

/-- The dispatch that is possible (R99, R100): the first eligible entry goes to the lowest-numbered free unit. -/
def State.makeDispatch (s : State) : State :=
  match s.contributions.find? (eligible s), unitOrder.find? (unitFree s) with
  | some e, some w =>
    match s.cells[e.cell].round with
    | some r => s.dispatchTo e r w
    | none => s
  | _, _ => s

/-- The state after all that an event has made possible: the grant is made in the event in which its conditions first hold
(R124), and a dispatch whenever a free unit and an eligible entry both exist (R99), on the state left by the event. Each
dispatch makes an offer, so a grant may follow it. There are four units, so four dispatches leave none possible (log 11). -/
def State.settle (s : State) : State :=
  unitOrder.foldl (fun t _ => t.makeDispatch.makeGrant) s.makeGrant

/-- An event is complete: the next state is what its own effect leaves, with all that it makes possible made (R99,
R124). -/
def completed (s : State) : Host.Outcome State Fault Refusal :=
  .next s.settle

end Sys2Proof.Machine
end

