-- ==== Sys2Proof/Machine/Ports.lean ====
section
/-! DEFINITION. The host port's shared operations (chapter 8): recording a status, command framing, handing over, the
port reset and its notices, acknowledgements, PORT CONTROL, and the taking of a command by its owner. -/

namespace Sys2Proof.Machine

/-- Record a status (R141): the ticket increases by one, the last status is replaced. -/
def HostPort.record (p : HostPort) (code : StatusCode) (value : Word) : HostPort :=
  { p with ticket := p.ticket + 1, lastCode := code, lastValue := value }

/-- Whether the port holds a write on the host bus (R135, R138): while a command is in DELIVERING. -/
def busHeld (p : HostPort) : Bool :=
  match p.framing with
  | .empty => false
  | .assembling _ _ => false
  | .delivering _ _ => true

/-- Whether a port ignores writes and answers NONE: its reset line is held (R147) or the device reset input is asserted
(R151). -/
def portInert (s : State) (h : HostId) : Bool :=
  s.ports[h].lineHeld || s.deviceReset

/-- An access of host `h` that the port completes with the effect `after`. A bus that holds a write carries no other
access (R135): such an access is refused by name (log 6). -/
def hostAccess (s : State) (h : HostId) (after : State) : Host.Outcome State Fault Refusal :=
  if busHeld s.ports[h] then .refused .busHeld else completed after

/-! ### Framing (section 8.2) -/

/-- A complete command with a known code (R138): refused by the port's checks (R140), or DELIVERING, handed over at once
unless a port reset is in progress (R139, R149). -/
def HostPort.complete (p : HostPort) (words : List Word) : HostPort :=
  match portCheck words with
  | some index => { p with framing := .empty }.record .badField (portFaultValue index)
  | none => { p with framing := .delivering words (if p.awaited = 0 then .handed else .held) }

/-- A word written to COMMAND (R137, R138). -/
def HostPort.writeCommand (p : HostPort) (word : Word) : HostPort :=
  match p.framing with
  | .empty =>
    match codeLength (commandCode word) with
    | none => p.record .unknownCommand word
    | some length => if length = 1 then p.complete [word] else { p with framing := .assembling [word] length }
  | .assembling words expected =>
    if words.length + 1 = expected then p.complete (words ++ [word])
    else { p with framing := .assembling (words ++ [word]) expected }
  | .delivering _ _ => p

/-- A write of a word to COMMAND by host `h`; ignored while the port is inert (R147, R151). -/
def writeCommand (s : State) (h : HostId) (word : Word) : State :=
  if portInert s h then s else s.putPort h (s.ports[h].writeCommand word)

/-! ### The port reset (section 8.7) -/

/-- The notices of a port reset (R149): six more acknowledgements awaited, one more loss notice, removal and cut to each
unit on their way; none for a count above 249 (R150). -/
def HostPort.sendNotices (p : HostPort) : HostPort :=
  if 249 < p.awaited then p
  else
    { p with
      awaited := p.awaited + 6, lossNotices := p.lossNotices + 1, removals := p.removals + 1
      cuts := p.cuts.map (· + 1) }

/-- The port record after a port reset (R148). -/
def HostPort.resetRecord (p : HostPort) : HostPort :=
  { p with
    framing := .empty, ticket := 0, lastCode := .none, lastValue := 0, view := .command
    completionEnable := false, errorEnable := false }.sendNotices

/-- The completion queue after a port reset (R163): the error latch is kept. -/
def clearQueue (q : CompletionQueue) : CompletionQueue :=
  { q with entries := [], reservations := 0, cursor := 0 }

/-- A port reset of `h` (R148): the port record, the completion queue and its line, and the notices. -/
def State.resetPort (s : State) (h : HostId) : State :=
  (s.putPort h s.ports[h].resetRecord).putQueue h (clearQueue s.queues[h])

/-- The port resets that waited for a decision (R148), one for each cause taken meanwhile (log 8). -/
def State.resetPortTimes (s : State) (h : HostId) : Nat → State
  | 0 => s
  | n + 1 => (s.resetPort h).resetPortTimes h n

/-- Whether a command of the port has been handed over and its decision has not yet reached the port (R148). -/
def awaitsDecision (p : HostPort) : Bool :=
  match p.framing with
  | .empty => false
  | .assembling _ _ => false
  | .delivering _ .held => false
  | .delivering _ .handed => true
  | .delivering _ (.decided _ _) => true

/-- A port reset cause is taken (R147, R148): the reset is made at once, or in the event in which an outstanding
decision reaches the port. -/
def State.takeResetCause (s : State) (h : HostId) : State :=
  if awaitsDecision s.ports[h] then
    s.putPort h { s.ports[h] with deferredResets := s.ports[h].deferredResets + 1 }
  else s.resetPort h

/-- A command held for acknowledgements is handed over once none is awaited (R139, R149). -/
def handOver (awaited : Nat) : Framing → Framing
  | .delivering words .held => .delivering words (if awaited = 0 then .handed else .held)
  | framing => framing

/-- The port takes an acknowledgement (R149): the count decreases by one, and a held command is handed over at 0. -/
def HostPort.acknowledge (p : HostPort) : HostPort :=
  { p with
    acksReturned := p.acksReturned - 1, awaited := p.awaited - 1, framing := handOver (p.awaited - 1) p.framing }

/-! ### PORT CONTROL (section 8.5) -/

/-- The framing after DISCARD (R145). -/
def discardWords : Framing → Framing
  | .assembling _ _ => .empty
  | framing => framing

/-- The port record after a PORT CONTROL word without RESET (R144): DISCARD, the enables, the view. -/
def HostPort.control (p : HostPort) (word : Word) : HostPort :=
  { p with
    framing := if controlDiscard word then discardWords p.framing else p.framing
    completionEnable := if controlSetsEnables word then controlCompletion word else p.completionEnable
    errorEnable := if controlSetsEnables word then controlError word else p.errorEnable
    view := if controlSelectsView word then (controlView word).getD p.view else p.view }

/-- A PORT CONTROL write (R144, R172): with RESET a port reset and nothing else, without it every requested action in
the one event; ignored while the port is inert (R147, R151). -/
def writeControl (s : State) (h : HostId) (word : Word) : State :=
  if portInert s h then s
  else if controlReset word then s.takeResetCause h
  else
    (s.putPort h (s.ports[h].control word)).putQueue h
      { s.queues[h] with latch := s.queues[h].latch &&& ~~~(controlAck word) }

/-! ### The taking of a command by its owner (R139) -/

/-- The words of the command with this code that port `h` has handed to its owner. -/
def handedCommand (s : State) (h : HostId) (code : Nat) : Option (List Word) :=
  match s.ports[h].framing with
  | .delivering words .handed => if commandCode (words.getD 0 0) = code then some words else none
  | _ => none

/-- The owner returns its decision on the command of port `h` (R139); it is on its way until the port takes it. -/
def State.returnDecision (s : State) (h : HostId) (words : List Word) (code : StatusCode) (value : Word) : State :=
  s.putPort h { s.ports[h] with framing := .delivering words (.decided code value) }

/-- An owner takes the command with this code of host `h` as one event: `act` makes its checks and effects. -/
def ownerTakes (s : State) (h : HostId) (code : Nat) (act : List Word → State) :
    Host.Outcome State Fault Refusal :=
  match handedCommand s h code with
  | none => .refused .notHandedOver
  | some words => completed (act words)

/-- A receiver acknowledges a port-reset notice of `h` to the port (R149); the acknowledgement is on its way until the
port takes it (log 7). -/
def HostPort.returnAck (p : HostPort) : HostPort :=
  { p with acksReturned := p.acksReturned + 1 }

end Sys2Proof.Machine
end

