-- ==== Sys2Proof/Machine/Rounds.lean ====
section
/-! DEFINITION. The life of a round in its cell (chapters 2 and 3): entry into COLLECTING, arrival, the clean end, the
fault, the early end, closing, hand-off, notices and disposition. Each is said once here and called by the events that
bring it about. -/

namespace Sys2Proof.Machine

/-- The record of a cell as it enters COLLECTING (R27, R43): accumulator by R7, tallies 0 (R11), the deadline timer
started with the timeout (R24), everything else empty or absent. -/
def freshRound (opener : HostId) (participants : HostSet) (settings : Settings) (repeats final : Bool)
    (timeout : Nat) (destination : Option Addr) : Round :=
  { phase := .collecting, opener := opener, participants := participants, posted := 0, arrived := 0
    settings := settings, repeats := repeats, final := final, destination := destination, timeout := timeout
    deadline := timeout, accumulator := initialAccumulator settings.combine.operation, tallies := Tallies.zero
    walkInFlight := none, inFlightHost := none, outcome := none, fault := none, result := none, publication := none
    contributionNotices := 0, waitNotices := 0, statuses := Vector.replicate 4 none }

/-- Whether the cell's deadline timer runs (R24). -/
def deadlineRuns (r : Round) : Bool :=
  decide (r.timeout ≠ 0) && (decide (r.phase = .collecting) || decide (r.phase = .absorbing))

/-- A host joins arrived with the status under which it joined (R21, R46). -/
def Round.arrive (r : Round) (h : HostId) (status : ContributionStatus) : Round :=
  { r with arrived := join r.arrived h, statuses := r.statuses.set h (some status) }

/-- A host whose contribution is pending and not in flight joins arrived with `status` (R48 step 3, R50 step 4). -/
def settleHost (status : ContributionStatus) (r : Round) (h : HostId) : Round :=
  if r.statuses[h] = some .pending ∧ r.inFlightHost ≠ some h then r.arrive h status else r

/-- Every posted host whose contribution is pending and not in flight joins arrived with `status`. -/
def Round.settlePending (r : Round) (status : ContributionStatus) : Round :=
  hostOrder.foldl (settleHost status) r

/-- Walk in flight and in-flight host are cleared (R35). -/
def Round.clearWalk (r : Round) : Round :=
  { r with walkInFlight := none, inFlightHost := none }

/-! ### Notices and disposition (R40 to R44) -/

/-- The notice of a round as the cell holds it (R156). -/
def roundNotice (c : CellId) (number : RoundNumber) (r : Round) (kind : NoticeKind) : Entry :=
  .notice
    { kind := kind, cell := c, number := number, outcome := r.outcome, publication := r.publication
      result := resultBits r.settings.width (r.result.bind (·.value)), combined := r.tallies.combined
      voids := r.tallies.voids, flags := (r.result.map (·.flags)).getD noFlags, fault := r.fault }

/-- The notices of one host, its contribution notice before its wait notice (R40). -/
def State.noticeHost (c : CellId) (number : RoundNumber) (r : Round) (s : State) (h : HostId) : State :=
  let s₁ :=
    if member r.contributionNotices h then s.enter h (roundNotice c number r (.contributionEnd r.statuses[h])) else s
  if member r.waitNotices h then s₁.enter h (roundNotice c number r .waitEnd) else s₁

/-- The notices of a round, in host order (R40). -/
def State.postNotices (s : State) (c : CellId) (number : RoundNumber) (r : Round) : State :=
  hostOrder.foldl (State.noticeHost c number r) s

/-- A cell goes FREE, its round number kept (R44). -/
def State.goFree (s : State) (c : CellId) : State :=
  s.putCell c { number := s.cells[c].number, round := none }

/-- A cell enters COLLECTING with its round number increased by one (R23, R27, R43). -/
def State.enterCollecting (s : State) (c : CellId) (r : Round) : State :=
  s.putCell c { number := s.cells[c].number + 1, round := some r }

/-- The disposition after the notices, whose notify list is now empty (R40, R41): FREE when final, the next round when
repeating (R43), else HELD (R42). -/
def State.dispose (s : State) (c : CellId) (r : Round) : State :=
  if r.final then s.goFree c
  else if r.repeats then
    s.enterCollecting c (freshRound r.opener r.participants r.settings r.repeats r.final r.timeout r.destination)
  else s.putRound c { r with phase := .held, contributionNotices := 0, waitNotices := 0 }

/-- Notices, then disposition, of a round whose publication status is set (R38, R39). -/
def State.finishRound (s : State) (c : CellId) (r : Round) : State :=
  (s.postNotices c s.cells[c].number r).dispose c r

/-! ### The ends of a round (R37, R38, R48 to R50) -/

/-- The hand-off of a round whose outcome, result and flags are set (R38). -/
def State.handOn (s : State) (c : CellId) (r : Round) : State :=
  match r.destination with
  | some _ => (s.putRound c { r with phase := .publishing }).appendPublication c
  | none => s.finishRound c { r with publication := some .notWritten }

/-- The closing of a round whose outcome is not COMPLETE (R49): VOID result, flags from the committed tallies, the
deadline timer stopped (R24). -/
def State.closeEarly (s : State) (c : CellId) (r : Round) : State :=
  s.handOn c { r with deadline := 0, result := some { value := none, flags := roundFlags r.outcome r.tallies } }

/-- The clean end of a round (R37): output stage, outcome, result and flags, timer stopped, hand-off. -/
def State.cleanEnd (s : State) (c : CellId) (r : Round) : State :=
  match outputStage r.settings r.accumulator r.tallies with
  | .result value tallies =>
    s.handOn c
      { r with
        tallies := tallies, outcome := some .complete, deadline := 0
        result := some { value := value, flags := roundFlags (some .complete) tallies } }
  | .raised kind =>
    s.handOn c
      { r with
        outcome := some .faulted, fault := some { kind := kind, element := none }, deadline := 0
        result := some { value := none, flags := roundFlags (some .faulted) r.tallies } }

/-- The outcome an early end leaves (R47, R48 step 1): the cause's in COLLECTING, FAULTED kept in ABSORBING. -/
def earlyOutcome (r : Round) (cause : RoundOutcome) : Option RoundOutcome :=
  if r.phase = .absorbing then r.outcome else some cause

/-- Steps 4 and 5 of the early end (R48): a cancel and DRAINING while a walk is in flight (R58), else the closing. -/
def State.drainOrClose (s : State) (c : CellId) (r : Round) : State :=
  match r.walkInFlight with
  | some w =>
    { s.putRound c { r with phase := .draining } with
      cancels := s.cancels ++ [{ unit := w, cell := c, round := s.cells[c].number }] }
  | none => s.closeEarly c r

/-- The early end by expiry, ABORT or loss (R48), of a cell in COLLECTING or ABSORBING. -/
def State.earlyEnd (s : State) (c : CellId) (r : Round) (cause : RoundOutcome) : State :=
  let ended := { r with outcome := earlyOutcome r cause, deadline := 0 }
  if r.phase = .collecting then (s.removeCell c).drainOrClose c (ended.settlePending .dropped)
  else s.closeEarly c ended

/-- The fault of a round in COLLECTING (R50, R51). -/
def State.faultRound (s : State) (c : CellId) (r : Round) (host : HostId) (kind : ExceptionKind) (index : Nat)
    (address : Addr) : State :=
  let faulted :=
    ({ r with
        outcome := some .faulted
        fault := some { kind := kind, element := some { host := host, index := index, address := address } } }
      |>.arrive host .faulting |>.clearWalk).settlePending .absorbed
  if faulted.arrived = faulted.participants then (s.removeCell c).closeEarly c faulted
  else (s.removeCell c).putRound c { faulted with phase := .absorbing }

/-- The status a report gives the in-flight host in DRAINING (R59). -/
def reportStatus : ReportKind → ContributionStatus
  | .done _ _ => .walked
  | .fault _ _ _ => .faulting
  | .cut => .cut

/-- The report that ends DRAINING, whatever its kind (R59): its contents are set aside and the round closes. -/
def State.endDrain (s : State) (c : CellId) (r : Round) (host : HostId) (kind : ReportKind) : State :=
  s.closeEarly c (r.arrive host (reportStatus kind)).clearWalk

/-! ### Deadline ticks (R24) and the loss of a host (R62 to R64) -/

/-- Whether a deadline tick brings the running timer of a cell to 0 (R24). -/
def expiring (r : Round) : Bool :=
  deadlineRuns r && decide (r.deadline ≤ 1)

/-- The deadline timer of a cell takes one tick (R24): a running timer decreases, and at 0 the cell takes the expiry in
the same event (R54); a timer that is not running is unchanged. -/
def State.cellTick (s : State) (c : CellId) : State :=
  match s.cells[c].round with
  | none => s
  | some r =>
    if expiring r then s.earlyEnd c r .expired
    else if deadlineRuns r then s.putRound c { r with deadline := r.deadline - 1 }
    else s

/-- What the loss notice of `h` does to the record of one cell (R63): memberships removed; a HELD cell that `h` opened
goes FREE; an active cell that `h` opened gets final. -/
def loseHost (h : HostId) (cell : Cell) : Cell :=
  match cell.round with
  | none => cell
  | some r =>
    if r.phase = .held ∧ r.opener = h then { cell with round := none }
    else
      { cell with
        round := some
          { r with
            contributionNotices := leave r.contributionNotices h
            waitNotices := leave r.waitNotices h
            final := r.final || (decide (r.opener = h) && decide (r.phase ≠ .held)) } }

/-- Whether the loss of `h` ends the round of a cell (R64). -/
def lossEnds (h : HostId) (cell : Cell) : Bool :=
  match cell.round with
  | none => false
  | some r =>
    (decide (r.phase = .collecting) || decide (r.phase = .absorbing))
      && (decide (r.opener = h) || (member r.participants h && !member r.arrived h))

/-- Insert a cell by its key in the free order of `Config.lossOrder` (log 14). -/
def insertByKey (key : CellId → Nat) (c : CellId) : List CellId → List CellId
  | [] => [c]
  | d :: rest => if key d ≤ key c then d :: insertByKey key c rest else c :: d :: rest

/-- The cells in rising order of their key, cells of equal key in the order given. -/
def sortByKey (key : CellId → Nat) (cells : List CellId) : List CellId :=
  cells.foldl (fun sorted c => insertByKey key c sorted) []

/-- A cell whose round the loss ends (R64): the early end with LOST, FAULTED kept in ABSORBING. -/
def State.loseRound (s : State) (c : CellId) : State :=
  match s.cells[c].round with
  | none => s
  | some r => if r.phase = .collecting ∨ r.phase = .absorbing then s.earlyEnd c r .lost else s

/-- The cells whose rounds the loss of `h` ends, in the free order of this loss notice (R62, R64; log 14). -/
def lossCells (s : State) (h : HostId) : List CellId :=
  sortByKey (Config.lossOrder s.lossCount) (cellOrder.filter (fun c => lossEnds h s.cells[c]))

/-- The Cell Table takes the loss notice of `h` as one event over all 64 cells (R62 to R64). -/
def State.takeLoss (s : State) (h : HostId) : State :=
  (lossCells s h).foldl State.loseRound
    { s with cells := s.cells.map (loseHost h), lossCount := s.lossCount + 1 }

end Sys2Proof.Machine
end

