-- ==== Sys2Proof/Machine/CellCommands.lean ====
section
/-! DEFINITION. The meanings of the six commands the Cell Table takes: OPEN, CONTRIBUTE, WAIT, ABORT, RELEASE, QUERY.
Each is checked in its rule's order; a refused command changes nothing but the decision on its way to the port. -/

namespace Sys2Proof.Machine

/-- The Cell Table refuses a command (R25): the code of the first failing check, the value the cell's round number. -/
def State.refuseCommand (s : State) (h : HostId) (words : List Word) (code : StatusCode) : State :=
  s.returnDecision h words code (roundValue s.cells[commandCell words].number)

/-! ### OPEN -/

/-- The first failing check of OPEN (R26). -/
def openRefusal (f : OpenFields) (cell : Cell) : Option StatusCode :=
  if f.participants = 0 then some .badField
  else if f.settings.isNone then some .badField
  else if (f.destination.any fun d => decide (d.toNat % 16 ≠ 0)) then some .badAlign
  else if cell.round.isSome then some .cellBusy
  else none

/-- The Cell Table takes an OPEN (R25 to R27). -/
def takeOpen (s : State) (h : HostId) (words : List Word) : State :=
  let f := decodeOpen words
  match openRefusal f s.cells[f.cell], f.settings with
  | some code, _ => s.refuseCommand h words code
  | none, none => s.refuseCommand h words .badField
  | none, some settings =>
    (s.enterCollecting f.cell (freshRound h f.participants settings f.repeats false f.timeout f.destination)).returnDecision h
      words .accepted (roundValue (s.cells[f.cell].number + 1))

/-- OPEN (R26, R27). -/
def execOpen (h : HostId) (s : State) : Host.Outcome State Fault Refusal :=
  ownerTakes s h 1 (takeOpen s h)

/-! ### CONTRIBUTE -/

/-- Checks 3 to 10 of CONTRIBUTE (R28) against a cell that is not FREE. -/
def roundRefusal (s : State) (h : HostId) (f : ContributeFields) (d : Descriptor) (number : RoundNumber) (r : Round) :
    Option StatusCode :=
  if f.round ≠ number then some .wrongRound
  else if r.phase ≠ .collecting ∧ r.phase ≠ .absorbing then some .roundClosed
  else if !member r.participants h then some .notParticipant
  else if member r.posted h then some .duplicate
  else if misaligned s.strides d then some .badAlign
  else if r.phase = .collecting ∧ 32 ≤ s.contributions.length then some .queueFull
  else if r.phase = .collecting ∧ 16 ≤ s.hostCounts[h] then some .hostQuota
  else if noCredit s.queues[h] then some .noCredit
  else none

/-- The changes of R29: the host joins posted, its status is pending, its contribution notice reserved. -/
def Round.post (r : Round) (h : HostId) : Round :=
  { r with
    posted := join r.posted h
    statuses := r.statuses.set h (some .pending)
    contributionNotices := join r.contributionNotices h }

/-- The contribution of an accepted CONTRIBUTE, with its namings (R30, R88, R94). -/
def contributionOf (h : HostId) (f : ContributeFields) (d : Descriptor) : Contribution :=
  { cell := f.cell, round := f.round, host := h, descriptor := d, prescale := f.prescale, priority := f.priority
    hold := f.hold, refs := namings d }

/-- The absorption of a contribution in ABSORBING (R53): the round closes at the last absorbed arrival. -/
def State.absorb (s : State) (c : CellId) (r : Round) (h : HostId) : State :=
  let absorbed := r.arrive h .absorbed
  if absorbed.arrived = absorbed.participants then s.closeEarly c absorbed else s.putRound c absorbed

/-- The effects of an accepted CONTRIBUTE (R29, R30): one reservation, then the Pending Queue in COLLECTING or
absorption in ABSORBING. -/
def acceptContribute (s : State) (h : HostId) (f : ContributeFields) (d : Descriptor) (r : Round) : State :=
  if r.phase = .collecting then
    ((s.reserve h).putRound f.cell (r.post h)).enqueue (contributionOf h f d)
  else (s.reserve h).absorb f.cell (r.post h) h

/-- The number of Pending Queue entries a host holds as a status value (R25, R171). -/
def countValue (n : Nat) : Word :=
  packFields [(4, 0, n)]

/-- The Cell Table takes a CONTRIBUTE (R28 to R30, R53). -/
def takeContribute (s : State) (h : HostId) (words : List Word) : State :=
  let f := decodeContribute words
  match f.format with
  | none => s.refuseCommand h words .badField
  | some format =>
    let d := contributeDescriptor f format
    if contributeBadField f then s.refuseCommand h words .badField
    else if contributeBadShape f then s.refuseCommand h words .badShape
    else
      match s.cells[f.cell].round with
      | none => s.refuseCommand h words .cellFree
      | some r =>
        match roundRefusal s h f d s.cells[f.cell].number r with
        | some code => s.refuseCommand h words code
        | none =>
          let s₁ := acceptContribute s h f d r
          s₁.returnDecision h words .accepted (countValue s₁.hostCounts[h])

/-- CONTRIBUTE (R28 to R30, R53). -/
def execContribute (h : HostId) (s : State) : Host.Outcome State Fault Refusal :=
  ownerTakes s h 2 (takeContribute s h)

/-! ### WAIT -/

/-- Checks 2 to 4 of WAIT (R31). -/
def waitRefusal (s : State) (h : HostId) (named number : RoundNumber) (r : Round) : Option StatusCode :=
  if named ≠ number then some .wrongRound
  else if r.phase ≠ .held ∧ member r.waitNotices h = true then some .duplicate
  else if noCredit s.queues[h] then some .noCredit
  else none

/-- The effect of an accepted WAIT (R32): the wait notice is reserved, or on a HELD cell the WAIT_END is entered at
once. -/
def acceptWait (s : State) (h : HostId) (c : CellId) (r : Round) : State :=
  if r.phase = .held then (s.reserve h).enter h (roundNotice c s.cells[c].number r .waitEnd)
  else (s.reserve h).putRound c { r with waitNotices := join r.waitNotices h }

/-- The Cell Table takes a WAIT (R31, R32). -/
def takeWait (s : State) (h : HostId) (words : List Word) : State :=
  let c := commandCell words
  match s.cells[c].round with
  | none => s.refuseCommand h words .cellFree
  | some r =>
    match waitRefusal s h (commandRound words) s.cells[c].number r with
    | some code => s.refuseCommand h words code
    | none => (acceptWait s h c r).returnDecision h words .accepted (roundValue s.cells[c].number)

/-- WAIT (R31, R32). -/
def execWait (h : HostId) (s : State) : Host.Outcome State Fault Refusal :=
  ownerTakes s h 3 (takeWait s h)

/-! ### ABORT -/

/-- Checks 2 to 4 of ABORT (R55). -/
def abortRefusal (h : HostId) (named number : RoundNumber) (r : Round) : Option StatusCode :=
  if r.opener ≠ h then some .notOpener
  else if named ≠ number then some .wrongRound
  else if r.phase ≠ .collecting ∧ r.phase ≠ .absorbing then some .roundClosed
  else none

/-- The Cell Table takes an ABORT (R55, R56): final is set first, then the early end. -/
def takeAbort (s : State) (h : HostId) (words : List Word) : State :=
  let c := commandCell words
  match s.cells[c].round with
  | none => s.refuseCommand h words .cellFree
  | some r =>
    match abortRefusal h (commandRound words) s.cells[c].number r with
    | some code => s.refuseCommand h words code
    | none =>
      (s.earlyEnd c { r with final := r.final || abortFinal words } .aborted).returnDecision h words .accepted
        (roundValue s.cells[c].number)

/-- ABORT (R55, R56). -/
def execAbort (h : HostId) (s : State) : Host.Outcome State Fault Refusal :=
  ownerTakes s h 4 (takeAbort s h)

/-! ### RELEASE and QUERY -/

/-- Checks 2 and 3 of RELEASE (R33). -/
def releaseRefusal (h : HostId) (r : Round) : Option StatusCode :=
  if r.opener ≠ h then some .notOpener
  else if r.phase ≠ .held then some .notHeld
  else none

/-- The Cell Table takes a RELEASE (R33, R44). -/
def takeRelease (s : State) (h : HostId) (words : List Word) : State :=
  let c := commandCell words
  match s.cells[c].round with
  | none => s.refuseCommand h words .cellFree
  | some r =>
    match releaseRefusal h r with
    | some code => s.refuseCommand h words code
    | none => (s.goFree c).returnDecision h words .accepted (roundValue s.cells[c].number)

/-- RELEASE (R33). -/
def execRelease (h : HostId) (s : State) : Host.Outcome State Fault Refusal :=
  ownerTakes s h 5 (takeRelease s h)

/-- The number of entries a queue holds as a status value (R25, R171). -/
def heldValue (n : Nat) : Word :=
  packFields [(5, 0, n)]

/-- The Cell Table takes a QUERY (R34): one reservation, converted at once into a REPORT of the cell as it stands. -/
def takeQuery (s : State) (h : HostId) (words : List Word) : State :=
  let c := commandCell words
  if noCredit s.queues[h] then s.refuseCommand h words .noCredit
  else
    let s₁ := (s.reserve h).enter h (.report { cell := c, record := s.cells[c] })
    s₁.returnDecision h words .accepted (heldValue s₁.queues[h].entries.length)

/-- QUERY (R34). -/
def execQuery (h : HostId) (s : State) : Host.Outcome State Fault Refusal :=
  ownerTakes s h 6 (takeQuery s h)

end Sys2Proof.Machine
end

