-- ==== Sys2Proof/Machine/CellEvents.lean ====
section
/-! DEFINITION. The meanings of the events a cell takes from other blocks: walk-end reports, publication-done reports,
deadline ticks and expiries, and loss notices. -/

namespace Sys2Proof.Machine

/-- Whether a report is a DONE (R107). -/
def isDone : ReportKind → Bool
  | .done _ _ => true
  | .fault _ _ _ => false
  | .cut => false

/-- Whether a report is a FAULT (R107). -/
def isFault : ReportKind → Bool
  | .done _ _ => false
  | .fault _ _ _ => true
  | .cut => false

/-- Whether a report is a CUT (R107). -/
def isCut : ReportKind → Bool
  | .done _ _ => false
  | .fault _ _ _ => false
  | .cut => true

/-- Whether a report on its way is for cell `c` and of the kind asked for. -/
def reportFor (c : CellId) (kind : ReportKind → Bool) (m : WalkReport) : Bool :=
  decide (m.cell = c) && kind m.kind

/-- A DONE report in COLLECTING (R36): the working values are committed, the host arrives as WALKED, and the round
completes when every participant has arrived (R37). -/
def State.commitWalk (s : State) (c : CellId) (r : Round) (host : HostId) (accumulator : Option Int) (t : Tallies) :
    State :=
  let walked := ({ r with accumulator := accumulator, tallies := t }.arrive host .walked).clearWalk
  if walked.arrived = walked.participants then s.cleanEnd c walked else s.putRound c walked

/-- A report in COLLECTING (R36, R50, R65). A CUT clears walk in flight and leaves the host pending. -/
def State.collectReport (s : State) (c : CellId) (r : Round) (host : HostId) : ReportKind → State
  | .done accumulator t => s.commitWalk c r host accumulator t
  | .fault kind index address => s.faultRound c r host kind index address
  | .cut => s.putRound c r.clearWalk

/-- A cell takes the walk-end report of the kind asked for (R36, R50, R59, R65). A report cannot reach a cell that is
neither COLLECTING nor DRAINING (R36, R50; log 17). -/
def takeReport (s : State) (c : CellId) (kind : ReportKind → Bool) : Host.Outcome State Fault Refusal :=
  match s.walkReports.find? (reportFor c kind) with
  | none => .refused .noReport
  | some m =>
    let s₁ := { s with walkReports := s.walkReports.eraseP (reportFor c kind) }
    match s.cells[c].round with
    | none => .fault .reportWithoutWalk
    | some r =>
      match r.phase with
      | .collecting => completed (s₁.collectReport c r m.host m.kind)
      | .draining => completed (s₁.endDrain c r m.host m.kind)
      | .absorbing => .fault .reportWithoutWalk
      | .publishing => .fault .reportWithoutWalk
      | .held => .fault .reportWithoutWalk

/-- WALK_END_DONE (R36, R37, R59). -/
def execWalkEndDone (c : CellId) (s : State) : Host.Outcome State Fault Refusal :=
  takeReport s c isDone

/-- WALK_END_FAULT (R50, R51, R59). -/
def execWalkEndFault (c : CellId) (s : State) : Host.Outcome State Fault Refusal :=
  takeReport s c isFault

/-- WALK_END_CUT (R59, R65). -/
def execWalkEndCut (c : CellId) (s : State) : Host.Outcome State Fault Refusal :=
  takeReport s c isCut

/-- Whether a publication-done report is for cell `c`. -/
def publicationFor (c : CellId) (m : PublicationReport) : Bool :=
  decide (m.cell = c)

/-- PUBLICATION_DONE (R39): the status is recorded, the notices are posted, the cell takes its disposition. -/
def execPublicationDone (c : CellId) (s : State) : Host.Outcome State Fault Refusal :=
  match s.publicationReports.find? (publicationFor c) with
  | none => .refused .noPublicationReport
  | some m =>
    match s.cells[c].round with
    | none => .fault .publicationNotAwaited
    | some r =>
      if r.phase = .publishing then
        completed
          ({ s with publicationReports := s.publicationReports.eraseP (publicationFor c) }.finishRound c
            { r with publication := some m.status })
      else .fault .publicationNotAwaited

/-- One tick is taken from those on their way to a cell's deadline timer (R174). -/
def State.useDeadlineTick (s : State) (c : CellId) : State :=
  { s with deadlineTicks := s.deadlineTicks.set c (s.deadlineTicks[c] - 1) }

/-- DEADLINE_TIMER_TICK (R24, R174). The tick that brings the timer to 0 and the expiry are one event of the cell. -/
def execDeadlineTimerTick (c : CellId) (s : State) : Host.Outcome State Fault Refusal :=
  if s.deadlineTicks[c] = 0 then .refused .noTick else completed ((s.useDeadlineTick c).cellTick c)

/-- Whether the next tick is an expiry of the cell's deadline timer (R24). -/
def cellExpires (cell : Cell) : Bool :=
  match cell.round with
  | none => false
  | some r => expiring r

/-- DEADLINE_EXPIRY (R24, R54): the same event, for a tick that does bring the running timer to 0. -/
def execDeadlineExpiry (c : CellId) (s : State) : Host.Outcome State Fault Refusal :=
  if s.deadlineTicks[c] = 0 then .refused .noTick
  else if cellExpires s.cells[c] then completed ((s.useDeadlineTick c).cellTick c)
  else .refused .noTick

/-- LOSS_NOTICE (R62 to R64): taken from those on their way, acknowledged (R149), and acted on in all 64 cells. -/
def execLossNotice (h : HostId) (s : State) : Host.Outcome State Fault Refusal :=
  if s.ports[h].lossNotices = 0 then .refused .noNotice
  else
    completed
      ((s.putPort h { s.ports[h] with lossNotices := s.ports[h].lossNotices - 1 }.returnAck).takeLoss h)

end Sys2Proof.Machine
end

