-- ==== Sys2Proof/Machine/Device.lean ====
section
/-! DEFINITION. The meanings of the events of the Timebase, the device reset input and the supplies (chapter 11, R45,
R117). -/

namespace Sys2Proof.Machine

/-- TICK (R174): the tick counter completes a microsecond and one tick is issued to every timer; it stands for the clock
periods that were left (log 4). While the device reset input is asserted the Timebase issues none (R176). -/
def execTick (s : State) : Host.Outcome State Fault Refusal :=
  if s.deviceReset then .refused .heldInDeviceReset else completed s.issueTick

/-- Every block in its reset state (R45, R92, R114, R122, R134, R151, R164, R176). What lies outside the blocks is kept:
the level of each port's reset line (R136), the readiness of the memory side (log 12), the host bus words, the commands
that wait, the frequency selection until a release (R175), and the model's own counter. -/
def State.resetBlocks (s : State) : State :=
  { State.reset with
    pending := s.pending
    ports := s.ports.map (fun p => { HostPort.reset with lineHeld := p.lineHeld })
    epoch := s.epoch
    memoryReady := s.memoryReady
    periods := s.periods
    deviceReset := s.deviceReset
    busData := s.busData
    lossCount := s.lossCount }

/-- DEVICE_RESET: the input is asserted; every block returns to its reset state and the epoch is inverted (R122). -/
def execDeviceReset (s : State) : Host.Outcome State Fault Refusal :=
  if s.deviceReset then .refused .lineUnchanged
  else completed { s.resetBlocks with deviceReset := true, epoch := !s.epoch }

/-- DEVICE_RESET_RELEASE (R175, R176): the straps are latched and the tick counter begins at 0. -/
def execDeviceResetRelease (straps : BitVec 7) (s : State) : Host.Outcome State Fault Refusal :=
  if s.deviceReset then
    completed { s with deviceReset := false, periods := selectedPeriods straps, tickCounter := 0 }
  else .refused .lineUnchanged

/-- SUPPLIES_COME_UP (R117): the epoch bit is 0, every block stands at its reset state (log 2), the frequency selection
is the model's power-up value (log 3). -/
def execSuppliesComeUp (s : State) : Host.Outcome State Fault Refusal :=
  completed { s.resetBlocks with epoch := false, periods := Config.powerUpPeriods }

end Sys2Proof.Machine
end

