-- ==== Sys2Proof/Machine/HostPorts.lean ====
section
/-! DEFINITION. The meanings of the host port's rows: accesses of the host, the decision on a command, acknowledgements
and the reset line. -/

namespace Sys2Proof.Machine

/-- COMMAND_WRITE (R137, R138): the word is taken into framing. -/
def execCommandWrite (h : HostId) (word : Word) (s : State) : Host.Outcome State Fault Refusal :=
  hostAccess s h (writeCommand s h word)

/-- UNKNOWN_COMMAND (R137): the same access with a first word whose code names no command. In ASSEMBLING the word is
appended unexamined, as R138 states (log 7). -/
def execUnknownCommand (h : HostId) (word : Word) (s : State) : Host.Outcome State Fault Refusal :=
  hostAccess s h (writeCommand s h word)

/-- COMMAND_DECISION (R139, R141, R148): the status is recorded, the framing returns to EMPTY, and the port resets that
waited for the decision are made. -/
def execCommandDecision (h : HostId) (s : State) : Host.Outcome State Fault Refusal :=
  match s.ports[h].framing with
  | .delivering _ (.decided code value) =>
    completed
      ((s.putPort h
          ({ s.ports[h] with framing := .empty, deferredResets := 0 }.record code value)).resetPortTimes h
        s.ports[h].deferredResets)
  | _ => .refused .noDecision

/-- IGNORED_WRITE (R135): completed on the host bus, no effect. -/
def execIgnoredWrite (h : HostId) (_location : ReadOnlyLocation) (_word : Word) (s : State) :
    Host.Outcome State Fault Refusal :=
  hostAccess s h s

/-- RESPONSE_READ (R158, R159): the host bus carries the word, and the queue moves on; NONE and no change while the port
is inert (R147, R151). -/
def execResponseRead (h : HostId) (s : State) : Host.Outcome State Fault Refusal :=
  let s₁ := { s with busData := s.busData.set h (responseWord s h) }
  hostAccess s h (if portInert s h then s₁ else s₁.putQueue h (readQueue s.queues[h]))

/-- PORT_RESET (R144, R148). -/
def execPortReset (h : HostId) (word : Word) (s : State) : Host.Outcome State Fault Refusal :=
  hostAccess s h (writeControl s h word)

/-- DISCARD (R144, R145). -/
def execDiscard (h : HostId) (word : Word) (s : State) : Host.Outcome State Fault Refusal :=
  hostAccess s h (writeControl s h word)

/-- ACK (R144, R161). -/
def execAck (h : HostId) (word : Word) (s : State) : Host.Outcome State Fault Refusal :=
  hostAccess s h (writeControl s h word)

/-- SET_ENABLES (R144). -/
def execSetEnables (h : HostId) (word : Word) (s : State) : Host.Outcome State Fault Refusal :=
  hostAccess s h (writeControl s h word)

/-- SELECT_VIEW (R144, R172). -/
def execSelectView (h : HostId) (word : Word) (s : State) : Host.Outcome State Fault Refusal :=
  hostAccess s h (writeControl s h word)

/-- RESET_LINE_ASSERTED (R147, R148): reset line held becomes yes and one port reset cause is taken. -/
def execResetLineAsserted (h : HostId) (s : State) : Host.Outcome State Fault Refusal :=
  if s.ports[h].lineHeld then .refused .lineUnchanged
  else completed ((s.putPort h { s.ports[h] with lineHeld := true }).takeResetCause h)

/-- RESET_LINE_RELEASED (R147): reset line held becomes no, no other change. -/
def execResetLineReleased (h : HostId) (s : State) : Host.Outcome State Fault Refusal :=
  if s.ports[h].lineHeld then completed (s.putPort h { s.ports[h] with lineHeld := false })
  else .refused .lineUnchanged

/-- ACKNOWLEDGEMENT (R149). -/
def execAcknowledgement (h : HostId) (s : State) : Host.Outcome State Fault Refusal :=
  if s.ports[h].acksReturned = 0 then .refused .noAcknowledgement
  else completed (s.putPort h s.ports[h].acknowledge)

end Sys2Proof.Machine
end

