-- ==== Sys2Proof/Machine/MemoryPort.lean ====
section
/-! DEFINITION. The meanings of the events of the memory port and the Publisher (chapter 7). -/

namespace Sys2Proof.Machine

/-- ARBITER_GRANT (R124): the memory side is ready to take a request (log 12), and one grant is made if an offer stands and
no grant waits to be taken; else the next offer made is granted in its own event. -/
def execArbiterGrant (s : State) : Host.Outcome State Fault Refusal :=
  completed { s with memoryReady := true }

/-- The address of the write of a step (R115, R129, R130): the second is at the destination + 8. -/
def writeAddress (record : PublisherRecord) : Addr :=
  match record.step with
  | .firstWrite => record.destination
  | .secondWrite => record.destination + 8

/-- The half of the record a step writes (R129, R130). -/
def writeData (record : PublisherRecord) : DataUnit :=
  match record.step with
  | .firstWrite => record.firstHalf
  | .secondWrite => record.secondHalf

/-- The Publisher issues the write of its step on slot 16 (R126, R129, R130). A grant to the Publisher changes neither
arbiter field (R125). -/
def State.issueWrite (s : State) (record : PublisherRecord) : State :=
  { s.issue publisherSlot (writeAddress record) 0xFF true (some (writeData record)) with
    grant := none
    publisher := some { record with waiting := true } }

/-- WRITE_GRANT_TAKEN (R126, R129, R130). -/
def execWriteGrantTaken (s : State) : Host.Outcome State Fault Refusal :=
  match s.grant with
  | none => .refused .noGrant
  | some g =>
    if g.requester = .publisher then
      match s.publisher with
      | some record => if record.waiting then completed { s with grant := none } else completed (s.issueWrite record)
      | none => completed { s with grant := none }
    else .refused .noGrant

/-- MEMORY_RESPONSE (R119): a matching response answers its request; any other is discarded. -/
def execMemoryResponse (tag : BitVec 10) (answer : MemAnswer) (s : State) : Host.Outcome State Fault Refusal :=
  match matchedSlot s tag with
  | none => completed s
  | some t => completed (s.answerSlot t (memAnswer answer))

/-- One tick is taken from those on their way to a slot's response timer (R174). -/
def State.useResponseTick (s : State) (t : SlotId) : State :=
  { s with responseTicks := s.responseTicks.set t (s.responseTicks[t] - 1) }

/-- RESPONSE_TIMER_TICK (R120, R174). The tick that brings the timer to 0 and the TIMEOUT are one event. -/
def execResponseTimerTick (t : SlotId) (s : State) : Host.Outcome State Fault Refusal :=
  if s.responseTicks[t] = 0 then .refused .noTick else completed ((s.useResponseTick t).slotTick t)

/-- RESPONSE_TIMEOUT (R120): the same event, for a tick that does bring the running timer to 0. -/
def execResponseTimeout (t : SlotId) (s : State) : Host.Outcome State Fault Refusal :=
  if s.responseTicks[t] = 0 then .refused .noTick
  else if s.slots[t].outstanding = true ∧ s.slots[t].timer ≤ 1 then completed ((s.useResponseTick t).slotTick t)
  else .refused .noTick

/-- The Publisher's publication status is set and reported (R131): the current record is discarded and the head of the
Publication Queue is taken. -/
def State.reportPublication (s : State) (c : CellId) (status : PublicationStatus) : State :=
  State.takeHead
    { s with
      publisher := none
      publicationReports := s.publicationReports ++ [{ cell := c, status := status }] }

/-- The Publisher takes the answer to the write of its step (R129, R130). -/
def State.publisherTakes (s : State) (record : PublisherRecord) (a : Answer) : State :=
  match record.step, a with
  | .firstWrite, .ok _ => { s with publisher := some { record with step := .secondWrite, waiting := false } }
  | .secondWrite, .ok _ => s.reportPublication record.cell .written
  | _, .error => s.reportPublication record.cell .writeFailed
  | _, .timeout => s.reportPublication record.cell .writeFailed

/-- PUBLISHER_ANSWER (R129 to R131). A Publisher that waits for no answer is owed none (R117; log 17). -/
def execPublisherAnswer (s : State) : Host.Outcome State Fault Refusal :=
  match s.answers[publisherSlot], s.publisher with
  | none, _ => .refused .noAnswer
  | some _, none => .fault .answerNotAwaited
  | some a, some record =>
    if record.waiting then
      completed ({ s with answers := s.answers.set publisherSlot none }.publisherTakes record a)
    else .fault .answerNotAwaited

end Sys2Proof.Machine
end

