-- ==== Sys2Proof/Machine/StrideCommands.lean ====
section
/-! DEFINITION. The meanings of the two commands the Stride Table takes (section 5.2). -/

namespace Sys2Proof.Machine

/-- The Stride Table takes a SET_STRIDE (R84): BAD_FIELD outside the range, STRIDE_BUSY while referenced, else the value
and the last writer are replaced. -/
def takeSetStride (s : State) (h : HostId) (words : List Word) : State :=
  let e := commandEntry words
  let value := strideOperand words
  let entry := s.strides[e]
  if value < -8388608 ∨ 8388607 < value then s.returnDecision h words .badField (strideValueStatus entry)
  else if 0 < entry.count then s.returnDecision h words .strideBusy (strideBusyStatus entry)
  else
    (s.putStride e { entry with value := value, writer := some h }).returnDecision h words .accepted (strideValueStatus entry)

/-- SET_STRIDE (R84, R85). -/
def execSetStride (h : HostId) (s : State) : Host.Outcome State Fault Refusal :=
  ownerTakes s h 7 (takeSetStride s h)

/-- READ_STRIDE (R86): always accepted, changes no field of the entry. -/
def execReadStride (h : HostId) (s : State) : Host.Outcome State Fault Refusal :=
  ownerTakes s h 8 (fun words => s.returnDecision h words .accepted (strideReadStatus s.strides[commandEntry words]))

end Sys2Proof.Machine
end

