-- ==== Sys2Proof/Machine/WalkEvents.lean ====
section
/-! DEFINITION. The meanings of the events of the Pending Queue, the Dispatcher and the walk units: removals, dispatch,
cuts, cancels, read grants and answers. -/

namespace Sys2Proof.Machine

/-- REMOVAL (R98): every entry of `h` leaves the Pending Queue, its count falls to 0, the notice is acknowledged
(R149). -/
def execRemoval (h : HostId) (s : State) : Host.Outcome State Fault Refusal :=
  if s.ports[h].removals = 0 then .refused .noNotice
  else
    let s₁ := (s.putPort h { s.ports[h] with removals := s.ports[h].removals - 1 }.returnAck).removeContributions
      (fun e => decide (e.host = h))
    completed { s₁ with hostCounts := s₁.hostCounts.set h 0 }

/-- DISPATCH (R99, R100): the dispatches that are possible are made. Every event makes those that it makes possible, so
that after one there is nothing left to pair and the row changes nothing (log 11). -/
def execDispatch (s : State) : Host.Outcome State Fault Refusal :=
  completed s

/-- A walk unit takes a cut naming `h` (R113): cut if it holds a contribution of `h`, ignored otherwise. -/
def State.takeCut (s : State) (w : UnitId) (h : HostId) : State :=
  match s.units[w].mode with
  | .walking walk => if walk.contribution.host = h then s.cutWalk w walk else s
  | .idle => s
  | .stopping => s

/-- CUT (R113): the notice is taken and acknowledged (R149). -/
def execCut (w : UnitId) (h : HostId) (s : State) : Host.Outcome State Fault Refusal :=
  if s.ports[h].cuts[w] = 0 then .refused .noNotice
  else
    completed
      ((s.putPort h
          { s.ports[h] with cuts := s.ports[h].cuts.set w (s.ports[h].cuts[w] - 1) }.returnAck).takeCut w h)

/-- A walk unit takes a cancel (R112): cut if it holds the contribution of that cell and round, ignored otherwise. -/
def State.takeCancel (s : State) (w : UnitId) (c : CellId) (round : RoundNumber) : State :=
  match s.units[w].mode with
  | .walking walk =>
    if walk.contribution.cell = c ∧ walk.contribution.round = round then s.cutWalk w walk else s
  | .idle => s
  | .stopping => s

/-- CANCEL (R112). -/
def execCancel (w : UnitId) (c : CellId) (round : RoundNumber) (s : State) : Host.Outcome State Fault Refusal :=
  if { unit := w, cell := c, round := round } ∈ s.cancels then
    completed ({ s with cancels := s.cancels.erase { unit := w, cell := c, round := round } }.takeCancel w c round)
  else .refused .noCancel

/-- READ_GRANT_TAKEN (R103, R126): the ready read is issued, or the grant is declined when its offer has been
withdrawn. -/
def execReadGrantTaken (w : UnitId) (s : State) : Host.Outcome State Fault Refusal :=
  match s.grant with
  | none => .refused .noGrant
  | some g =>
    if g.requester = .walkUnit w then
      match g.withdrawn, readReady s.units[w] with
      | false, some (walk, gen, k) => completed (s.issueRead w walk gen k)
      | _, _ => completed { s with grant := none }
    else .refused .noGrant

/-- A walk unit takes an answer for its place `k`, in use with `place` (R104, R111). -/
def State.takeAnswer (s : State) (w : UnitId) (k : PlaceId) (place : Place) (a : Answer) : State :=
  match s.units[w].mode with
  | .walking walk => s.advanceWalk w walk (s.units[w].window.set k (some { place with answer := some a }))
  | .stopping => s.drainPlace w k
  | .idle => s.drainPlace w k

/-- WALK_UNIT_ANSWER (R104 to R106, R109 to R111). A place that is empty awaits no answer (R117; log 17). -/
def execWalkUnitAnswer (w : UnitId) (k : PlaceId) (s : State) : Host.Outcome State Fault Refusal :=
  match s.answers[placeSlot w k], s.units[w].window[k], s.units[w].mode with
  | none, _, _ => .refused .noAnswer
  | some _, none, _ => .fault .answerNotAwaited
  | some _, some _, .idle => .fault .answerNotAwaited
  | some a, some place, _ =>
    completed ({ s with answers := s.answers.set (placeSlot w k) none }.takeAnswer w k place a)

end Sys2Proof.Machine
end

