-- ==== Sys2Proof/Machine/Dispatch.lean ====
section
/-! DEFINITION. One arm per row of spec/opcode_table.json, in the table's order: each a direct call of its meaning. -/

namespace Sys2Proof.Machine

/-- The effect of one command on everything but the queue of commands that wait. -/
def exec (i : Instr) (s : State) : Host.Outcome State Fault Refusal :=
  match i with
  | .openCell h => Sys2Proof.Machine.execOpen h s
  | .contribute h => Sys2Proof.Machine.execContribute h s
  | .wait h => Sys2Proof.Machine.execWait h s
  | .abort h => Sys2Proof.Machine.execAbort h s
  | .release h => Sys2Proof.Machine.execRelease h s
  | .query h => Sys2Proof.Machine.execQuery h s
  | .setStride h => Sys2Proof.Machine.execSetStride h s
  | .readStride h => Sys2Proof.Machine.execReadStride h s
  | .unknownCommand h word => Sys2Proof.Machine.execUnknownCommand h word s
  | .commandDecision h => Sys2Proof.Machine.execCommandDecision h s
  | .ignoredWrite h location word => Sys2Proof.Machine.execIgnoredWrite h location word s
  | .responseRead h => Sys2Proof.Machine.execResponseRead h s
  | .portReset h word => Sys2Proof.Machine.execPortReset h word s
  | .discard h word => Sys2Proof.Machine.execDiscard h word s
  | .ack h word => Sys2Proof.Machine.execAck h word s
  | .setEnables h word => Sys2Proof.Machine.execSetEnables h word s
  | .selectView h word => Sys2Proof.Machine.execSelectView h word s
  | .resetLineAsserted h => Sys2Proof.Machine.execResetLineAsserted h s
  | .resetLineReleased h => Sys2Proof.Machine.execResetLineReleased h s
  | .acknowledgement h => Sys2Proof.Machine.execAcknowledgement h s
  | .lossNotice h => Sys2Proof.Machine.execLossNotice h s
  | .removal h => Sys2Proof.Machine.execRemoval h s
  | .cut w h => Sys2Proof.Machine.execCut w h s
  | .cancel w c round => Sys2Proof.Machine.execCancel w c round s
  | .walkEndDone c => Sys2Proof.Machine.execWalkEndDone c s
  | .walkEndFault c => Sys2Proof.Machine.execWalkEndFault c s
  | .walkEndCut c => Sys2Proof.Machine.execWalkEndCut c s
  | .publicationDone c => Sys2Proof.Machine.execPublicationDone c s
  | .dispatch => Sys2Proof.Machine.execDispatch s
  | .arbiterGrant => Sys2Proof.Machine.execArbiterGrant s
  | .readGrantTaken w => Sys2Proof.Machine.execReadGrantTaken w s
  | .writeGrantTaken => Sys2Proof.Machine.execWriteGrantTaken s
  | .memoryResponse tag answer => Sys2Proof.Machine.execMemoryResponse tag answer s
  | .responseTimerTick t => Sys2Proof.Machine.execResponseTimerTick t s
  | .responseTimeout t => Sys2Proof.Machine.execResponseTimeout t s
  | .walkUnitAnswer w k => Sys2Proof.Machine.execWalkUnitAnswer w k s
  | .publisherAnswer => Sys2Proof.Machine.execPublisherAnswer s
  | .tick => Sys2Proof.Machine.execTick s
  | .deadlineTimerTick c => Sys2Proof.Machine.execDeadlineTimerTick c s
  | .deadlineExpiry c => Sys2Proof.Machine.execDeadlineExpiry c s
  | .deviceReset => Sys2Proof.Machine.execDeviceReset s
  | .deviceResetRelease straps => Sys2Proof.Machine.execDeviceResetRelease straps s
  | .commandWrite h word => Sys2Proof.Machine.execCommandWrite h word s
  | .suppliesComeUp => Sys2Proof.Machine.execSuppliesComeUp s

end Sys2Proof.Machine
end

