-- ==== Sys2Proof/Safety.lean ====
section
/-! DEFINITION. What a good state of the PD416 is, in the terms the statements use: the laws the spec names (L1 to L8)
and the bounds its tables give, each as a property of one state. -/

namespace Sys2Proof.Safety

open Sys2Proof.Machine

/-! ### Completion queues and ports -/

/-- Law L3 (R153): entries held plus reservations never exceed 32. -/
abbrev CreditLaw (s : State) : Prop :=
  ∀ h : HostId, placesTaken s.queues[h] ≤ 32

/-- The notification line follows the entries, the latch and the enables (R162). -/
abbrev LineLaw (s : State) : Prop :=
  ∀ h : HostId, s.queues[h].line = lineLevel s.queues[h] s.ports[h]

/-- The cuts of a port's resets that no unit has taken. -/
def cutsSent (p : HostPort) : Nat :=
  p.cuts[0] + p.cuts[1] + p.cuts[2] + p.cuts[3]

/-- Acknowledgements awaited count the port-reset notices sent and not yet taken, and the acknowledgements not yet
taken, and stay within 0..255 (R136, R149, R150). -/
abbrev NoticeLaw (s : State) : Prop :=
  ∀ h : HostId,
    s.ports[h].awaited =
        s.ports[h].lossNotices + s.ports[h].removals + cutsSent s.ports[h] + s.ports[h].acksReturned
      ∧ s.ports[h].awaited ≤ 255

/-- What the framing of one port holds (R136 to R139): between one word and the expected length in ASSEMBLING, a complete
command that passed the port's checks in DELIVERING, and a command handed over only while no acknowledgement is
awaited. -/
def wordsSound (p : HostPort) : Prop :=
  match p.framing with
  | .empty => True
  | .assembling words expected =>
    1 ≤ words.length ∧ words.length < expected ∧ codeLength (commandCode (words.getD 0 0)) = some expected
  | .delivering words stage =>
    codeLength (commandCode (words.getD 0 0)) = some words.length ∧ portCheck words = none
      ∧ (stage ≠ .held → p.awaited = 0)

/-- The framing of one port, and port resets that wait only for the decision of a command with its owner (R148). -/
def framingSound (p : HostPort) : Prop :=
  wordsSound p ∧ (p.deferredResets ≠ 0 → awaitsDecision p = true)

/-- The framing law of every port. -/
def FramingLaw (s : State) : Prop :=
  ∀ h : HostId, framingSound s.ports[h]

/-! ### Strides, the Pending Queue and the windows -/

/-- The stride references of the contribution a unit holds in WALKING. -/
def unitRefs (u : WalkUnit) : List StrideId :=
  match u.mode with
  | .walking walk => walk.contribution.refs
  | .idle => []
  | .stopping => []

/-- The namings of entry `e` by contributions in the Pending Queue and by contributions held in WALKING (R90). -/
def namingCount (s : State) (e : StrideId) : Nat :=
  (s.contributions.map (fun x => x.refs.count e)).sum + (unitOrder.map (fun w => (unitRefs s.units[w]).count e)).sum

/-- Law L4, first half (R90): each reference count is the number of namings. -/
abbrev StrideLaw (s : State) : Prop :=
  ∀ e : StrideId, s.strides[e].count = namingCount s e

/-- Every stride value is a signed 24-bit distance (R83). -/
abbrev StrideRangeLaw (s : State) : Prop :=
  ∀ e : StrideId, -8388608 ≤ s.strides[e].value ∧ s.strides[e].value ≤ 8388607

/-- Law L5, first half (R94, R95): at most 32 entries, at most 16 from one host, the counts being the true counts. -/
abbrev QueueLaw (s : State) : Prop :=
  s.contributions.length ≤ 32
    ∧ ∀ h : HostId,
      s.hostCounts[h] = s.contributions.countP (fun e => decide (e.host = h)) ∧ s.hostCounts[h] ≤ 16

/-- The Pending Queue runs in descending priority (R95). -/
abbrev PriorityLaw (s : State) : Prop :=
  s.contributions.Pairwise (fun a b => b.priority ≤ a.priority)

/-- Law L8 with the table of R102: an IDLE unit has no place in use; a STOPPING unit has one to four, each
outstanding. In WALKING the head of the window is still outstanding, for every answered head has been treated (R105). -/
def windowSound (u : WalkUnit) : Prop :=
  match u.mode with
  | .idle => ∀ k : PlaceId, u.window[k] = none
  | .walking _ => ∀ (k : PlaceId) (p : Place), headPlace u.window = some (k, p) → p.answer = none
  | .stopping =>
    (∃ k : PlaceId, u.window[k] ≠ none)
      ∧ ∀ k : PlaceId, u.window[k] ≠ none → placeOutstanding u.window[k] = true

/-- The window law of every unit. -/
def WindowLaw (s : State) : Prop :=
  ∀ w : UnitId, windowSound s.units[w]

/-! ### Memory port and Timebase -/

/-- A slot's timer runs exactly while it is OUTSTANDING, with 1 to 200 ticks left (R117, R120). -/
abbrev SlotLaw (s : State) : Prop :=
  ∀ t : SlotId,
    if s.slots[t].outstanding = true then 1 ≤ s.slots[t].timer ∧ s.slots[t].timer ≤ 200 else s.slots[t].timer = 0

/-- The tick counter stays below the periods in a tick, which the straps hold to 20..100, and at 0 while the device
reset input is asserted (R174 to R176). -/
abbrev TimebaseLaw (s : State) : Prop :=
  s.tickCounter < s.periods ∧ 20 ≤ s.periods ∧ s.periods ≤ 100 ∧ (s.deviceReset = true → s.tickCounter = 0)

/-! ### The accumulator (law L7) -/

/-- A present accumulator lies in −2^47..2^47−1 (R7). -/
def inRange (accumulator : Option Int) : Prop :=
  ∀ a, accumulator = some a → -(2 ^ 47) ≤ a ∧ a ≤ 2 ^ 47 - 1

/-- The prescale of an accepted contribution (R28). -/
def prescaleSound (e : Contribution) : Prop :=
  -16 ≤ e.prescale ∧ e.prescale ≤ 15

/-- What a unit in WALKING holds for law L7: working accumulator in range, prescale in range, each place reading one
element of the walk's format (R68). A unit in any other state holds no working values (R102, R107). -/
def walkSound (u : WalkUnit) : Prop :=
  match u.mode with
  | .idle => u.working = none ∧ u.tallies = Tallies.zero
  | .stopping => u.working = none ∧ u.tallies = Tallies.zero
  | .walking walk =>
    inRange u.working ∧ prescaleSound walk.contribution
      ∧ ∀ (k : PlaceId) (p : Place),
        u.window[k] = some p → p.size = elementSize walk.contribution.descriptor.format

/-- The accumulator that a report carries. -/
def reportAccumulator : ReportKind → Option Int
  | .done accumulator _ => accumulator
  | .fault _ _ _ => none
  | .cut => none

/-- Law L7 (R7) for the committed accumulators, and for the working ones they come from. -/
def AccumulatorLaw (s : State) : Prop :=
  (∀ (c : CellId) (r : Round), s.cells[c].round = some r → inRange r.accumulator)
    ∧ (∀ e ∈ s.contributions, prescaleSound e)
    ∧ (∀ w : UnitId, walkSound s.units[w])
    ∧ ∀ m ∈ s.walkReports, inRange (reportAccumulator m.kind)

/-! ### The deadline timer -/

/-- The deadline timer of a round (R22, R24): a running timer has 1 to timeout ticks left, a stopped one stands at 0. -/
def deadlineSound (r : Round) : Prop :=
  if deadlineRuns r = true then 1 ≤ r.deadline ∧ r.deadline ≤ r.timeout else r.deadline = 0

/-- The deadline law of every cell. -/
def DeadlineLaw (s : State) : Prop :=
  ∀ (c : CellId) (r : Round), s.cells[c].round = some r → deadlineSound r

/-! ### Rounds: outcomes, walks, publication and memberships -/

/-- What a round's outcome, fault record and result are in each phase (R18, R47, R49, R51): no outcome while COLLECTING
and one in every other phase, FAULTED in ABSORBING (R52) and a cause of an early end in DRAINING (R48), a fault record
exactly when FAULTED, and a result exactly in PUBLISHING and HELD, in the range of the output width and VOID unless
COMPLETE. -/
def outcomeSound (r : Round) : Prop :=
  (r.outcome = none ↔ r.phase = .collecting)
    ∧ (r.phase = .absorbing → r.outcome = some .faulted)
    ∧ (r.phase = .draining → r.outcome ≠ some .complete ∧ r.outcome ≠ some .faulted)
    ∧ (r.fault ≠ none ↔ r.outcome = some .faulted)
    ∧ (r.result ≠ none ↔ r.phase = .publishing ∨ r.phase = .held)
    ∧ ∀ res v, r.result = some res → res.value = some v →
      r.outcome = some .complete ∧ -(widthMax r.settings.width) ≤ v ∧ v ≤ widthMax r.settings.width

/-- The outcome law of every cell. -/
def OutcomeLaw (s : State) : Prop :=
  ∀ (c : CellId) (r : Round), s.cells[c].round = some r → outcomeSound r

/-- An accumulator is absent exactly when nothing has been combined under MAX or MIN (R7, R10). -/
def presenceSound (operation : Operation) (accumulator : Option Int) (t : Tallies) : Prop :=
  accumulator = none ↔ operation ≠ .sum ∧ t.combined = 0

/-- Law L6, first half (R18): a result is VOID if and only if the outcome is not COMPLETE, or EMPTY is set under MAX or
MIN. -/
def resultSound (r : Round) : Prop :=
  ∀ res, r.result = some res →
    (res.value = none ↔
      r.outcome ≠ some .complete ∨ (res.flags.empty = true ∧ r.settings.combine.operation ≠ .sum))

/-- Law L6, first half, for every cell, with what it comes from: the presence of the committed accumulators, of the
working ones, which combine by their cell's settings (R100 step 3), and of those that DONE reports carry. -/
def ResultLaw (s : State) : Prop :=
  (∀ (c : CellId) (r : Round), s.cells[c].round = some r →
      presenceSound r.settings.combine.operation r.accumulator r.tallies ∧ resultSound r)
    ∧ (∀ (w : UnitId) (walk : Walk), s.units[w].mode = .walking walk →
      ∀ r, s.cells[walk.contribution.cell].round = some r →
        walk.settings = r.settings.combine
          ∧ presenceSound r.settings.combine.operation s.units[w].working s.units[w].tallies)
    ∧ ∀ m ∈ s.walkReports, ∀ acc t, m.kind = .done acc t → ∀ r, s.cells[m.cell].round = some r →
      presenceSound r.settings.combine.operation acc t

/-- The cells on the Publication Queue, at the Publisher, and with a publication-done report on its way. -/
def publishingCells (s : State) : List CellId :=
  s.publicationQueue ++ (s.publisher.map (·.cell)).toList ++ s.publicationReports.map (·.cell)

/-- A cell is PUBLISHING exactly while it is queued, being written or reported on, and it is so at most once (R38, R127,
R131). A PUBLISHING cell has a destination. -/
def PublicationLaw (s : State) : Prop :=
  (publishingCells s).Nodup
    ∧ (∀ c : CellId, c ∈ publishingCells s ↔ ∃ r, s.cells[c].round = some r ∧ r.phase = .publishing)
    ∧ ∀ (c : CellId) (r : Round), s.cells[c].round = some r → r.phase = .publishing → r.destination ≠ none

/-- A walk that a cell waits for: the cell, round and host of the contribution. -/
abbrev WalkToken := CellId × RoundNumber × HostId

/-- The walk of a unit in WALKING. -/
def unitToken (u : WalkUnit) : List WalkToken :=
  match u.mode with
  | .walking walk => [(walk.contribution.cell, walk.contribution.round, walk.contribution.host)]
  | .idle => []
  | .stopping => []

/-- The walks held in WALKING and the walks whose report is on its way (R107). -/
def walkTokens (s : State) : List WalkToken :=
  unitOrder.flatMap (fun w => unitToken s.units[w]) ++ s.walkReports.map (fun m => (m.cell, m.round, m.host))

/-- The walks of one cell. -/
def cellTokens (s : State) (c : CellId) : List WalkToken :=
  (walkTokens s).filter (fun t => decide (t.1 = c))

/-- The entries of one cell in the Pending Queue. -/
def cellEntries (s : State) (c : CellId) : List Contribution :=
  s.contributions.filter (fun e => decide (e.cell = c))

/-- The membership sets and statuses of a round (R21, law L2): arrived within posted within participants, a status
exactly for the posted hosts, pending exactly for those that have not arrived. -/
def membersSound (r : Round) : Prop :=
  ∀ h : HostId,
    (member r.arrived h = true → member r.posted h = true)
      ∧ (member r.posted h = true → member r.participants h = true)
      ∧ (r.statuses[h] = none ↔ member r.posted h = false)
      ∧ (r.statuses[h] = some .pending ↔ member r.posted h = true ∧ member r.arrived h = false)

/-- The walk of a round (R35, R58, law L1): one walk of the in-flight host while walk in flight is set, none otherwise;
set only in COLLECTING and DRAINING. In DRAINING it is set, and every other posted host has arrived. -/
def walkLinked (s : State) (c : CellId) (r : Round) : Prop :=
  (r.walkInFlight = none ↔ r.inFlightHost = none)
    ∧ cellTokens s c = (r.inFlightHost.map (fun h => (c, s.cells[c].number, h))).toList
    ∧ (∀ h, r.inFlightHost = some h → r.statuses[h] = some .pending)
    ∧ (r.inFlightHost ≠ none → r.phase = .collecting ∨ r.phase = .draining)
    ∧ (r.phase = .draining →
        r.inFlightHost ≠ none ∧ ∀ h : HostId, r.statuses[h] = some .pending → r.inFlightHost = some h)

/-- The queued entries of a round (R95, law L5): only in COLLECTING, of the current round, one for each of some hosts that
are pending and not in flight. -/
def entriesLinked (s : State) (c : CellId) (r : Round) : Prop :=
  (r.phase ≠ .collecting → cellEntries s c = [])
    ∧ ((cellEntries s c).map (·.host)).Nodup
    ∧ ∀ e ∈ cellEntries s c,
      e.round = s.cells[c].number ∧ r.statuses[e.host] = some .pending ∧ r.inFlightHost ≠ some e.host

/-- Laws L1, L2 and L5 together (R21, R95, R100): the membership sets, the walk and the queued entries of every cell. A
FREE cell has no walk and no entry. In ABSORBING, PUBLISHING and HELD every posted host has arrived. -/
def RoundLaw (s : State) : Prop :=
  ∀ c : CellId,
    match s.cells[c].round with
    | none => cellTokens s c = [] ∧ cellEntries s c = []
    | some r =>
      membersSound r ∧ walkLinked s c r ∧ entriesLinked s c r
        ∧ (r.phase = .absorbing ∨ r.phase = .publishing ∨ r.phase = .held → r.arrived = r.posted)

/-- The memberships of `h` on one cell (R29, R32): a contribution notice and a wait notice. -/
def memberships (h : HostId) (cell : Cell) : Nat :=
  match cell.round with
  | none => 0
  | some r => bit (member r.contributionNotices h) + bit (member r.waitNotices h)

/-- The memberships of `h` on all cells. -/
def membershipCount (s : State) (h : HostId) : Nat :=
  (cellOrder.map (fun c => memberships h s.cells[c])).sum

/-- The notify list of a round (R29, R42): a contribution notice only for a posted host, and none at all in HELD. -/
def notifySound (r : Round) : Prop :=
  (∀ h : HostId, member r.contributionNotices h = true → member r.posted h = true)
    ∧ (r.phase = .held → r.contributionNotices = 0 ∧ r.waitNotices = 0)

/-- While no port reset of a host is in progress, its reservations are its memberships (R153, R154); while one is, there
are none, and once the loss notices have been taken there is no membership either (R62, R63, R148). -/
def MembershipLaw (s : State) : Prop :=
  (∀ h : HostId,
      if s.ports[h].awaited = 0 then s.queues[h].reservations = membershipCount s h
      else s.queues[h].reservations = 0 ∧ (s.ports[h].lossNotices = 0 → membershipCount s h = 0))
    ∧ ∀ (c : CellId) (r : Round), s.cells[c].round = some r → notifySound r

/-! ### Answers and grants -/

/-- A requester waits exactly while its slot is OUTSTANDING or its answer is on its way, and not both (R117, R119). -/
def answerDue (s : State) (t : SlotId) (waits : Bool) : Prop :=
  (waits = true ↔ s.slots[t].outstanding = true ∨ s.answers[t] ≠ none)
    ∧ (s.slots[t].outstanding = true → s.answers[t] = none)

/-- Whether the Publisher waits for an answer (R129, R130). -/
def publisherWaits (s : State) : Bool :=
  match s.publisher with
  | none => false
  | some record => record.waiting

/-- Every place and the Publisher wait for exactly the answers that will come (R117). -/
def AnswerLaw (s : State) : Prop :=
  (∀ (w : UnitId) (k : PlaceId), answerDue s (placeSlot w k) (placeOutstanding s.units[w].window[k]))
    ∧ answerDue s publisherSlot (publisherWaits s)

/-- A unit that the HOLD owner names (R125): it is WALKING a contribution with HOLD. -/
def holdsGrant (u : WalkUnit) : Prop :=
  ∃ walk, u.mode = .walking walk ∧ walk.contribution.hold = true

/-- Whether the offer of a requester stands (R123). -/
def offerStands (s : State) : Requester → Bool
  | .publisher => publisherOffers s
  | .walkUnit w => (readReady s.units[w]).isSome

/-- The arbiter's fields (R125, R126): a grant that is not withdrawn finds its offer still standing, and the HOLD owner
holds a contribution with HOLD. -/
def ArbiterLaw (s : State) : Prop :=
  (∀ g, s.grant = some g → g.withdrawn = false → offerStands s g.requester = true)
    ∧ ∀ w : UnitId, s.holdOwner = some w → holdsGrant s.units[w]

/-- A walk unit offers a read of this priority (R103, R123): it is WALKING a contribution of that priority, its
generator is not exhausted, and a place of its window is empty. -/
def offersRead (u : WalkUnit) (priority : Nat) : Prop :=
  ∃ walk g, u.mode = .walking walk ∧ walk.contribution.priority = priority ∧ u.generator = some g
    ∧ g.exhausted = false ∧ ∃ k : PlaceId, u.window[k] = none

/-- The Publisher offers a write (R123): it holds a current record whose next write has not been issued. -/
def offersWrite (s : State) : Prop :=
  ∃ record, s.publisher = some record ∧ record.waiting = false

/-- No dispatch is left to make (R99): a free unit and an eligible entry do not both exist. -/
def DispatchLaw (s : State) : Prop :=
  ∀ e ∈ s.contributions, ∀ r, s.cells[e.cell].round = some r → r.walkInFlight = none →
    ∀ w : UnitId, s.units[w].mode ≠ .idle

/-- No grant is due (R124): when the memory side is ready and an offer stands, a grant waits to be taken. -/
def GrantLaw (s : State) : Prop :=
  s.memoryReady = true → s.grant = none → ¬offersWrite s ∧ ∀ (w : UnitId) (priority : Nat), ¬offersRead s.units[w] priority

/-! ### The words of the statements: what an event leaves alone -/

/-- Every port but `h`'s is the same. -/
def otherPorts (h : HostId) (s t : State) : Prop :=
  ∀ g : HostId, g ≠ h → t.ports[g] = s.ports[g]

/-- Every completion queue but `h`'s is the same. -/
def otherQueues (h : HostId) (s t : State) : Prop :=
  ∀ g : HostId, g ≠ h → t.queues[g] = s.queues[g]

/-- Every cell but `c` is the same. -/
def otherCells (c : CellId) (s t : State) : Prop :=
  ∀ d : CellId, d ≠ c → t.cells[d] = s.cells[d]

/-- Every walk unit but `w` is the same. -/
def otherUnits (w : UnitId) (s t : State) : Prop :=
  ∀ v : UnitId, v ≠ w → t.units[v] = s.units[v]

/-- Every tag slot but `k` is the same. -/
def otherSlots (k : SlotId) (s t : State) : Prop :=
  ∀ j : SlotId, j ≠ k → t.slots[j] = s.slots[j]

/-! ### The words of the statements: commands and ports -/

/-- Port `h` has handed the command `words`, with this code, to its owner (R139). -/
def handedOver (s : State) (h : HostId) (code : Nat) (words : List Word) : Prop :=
  s.ports[h].framing = .delivering words .handed ∧ (words.getD 0 0).toNat / 2 ^ 28 = code

/-- A port with its owner's decision on its way (R139). -/
def decided (p : HostPort) (words : List Word) (code : StatusCode) (value : Word) : HostPort :=
  { p with framing := .delivering words (.decided code value) }

/-- The state in which the owner has returned its decision on the command of port `h` and nothing else has changed. -/
def decisionOnly (s : State) (h : HostId) (words : List Word) (code : StatusCode) (value : Word) : State :=
  { s with ports := s.ports.set h (decided s.ports[h] words code value) }

/-- The refusal that an ordered list of checks gives (R25: "the code is the first failing check of the command"): each
check with its code, true where the check fails. -/
def firstRefusal : List (Bool × StatusCode) → Option StatusCode
  | [] => none
  | (fails, code) :: rest => if fails then some code else firstRefusal rest

/-- The checks of OPEN (R26, R170): the settings fields of the second word, the destination, the state of the cell. -/
def openChecks (words : List Word) (cell : Cell) : List (Bool × StatusCode) :=
  let w₁ := words.getD 1 0
  [ ((words.getD 0 0).extractLsb' 0 4 == 0
      || w₁.extractLsb' 30 2 == 3 || w₁.extractLsb' 28 2 == 3
      || w₁.extractLsb' 26 2 == 1 || w₁.extractLsb' 26 2 == 3
      || decide (2 ≤ (w₁.extractLsb' 24 2).toNat) || decide (2 ≤ (w₁.extractLsb' 22 2).toNat)
      || decide (2 ≤ (w₁.extractLsb' 19 2).toNat) || decide (17 ≤ (w₁.extractLsb' 14 5).toNat), .badField),
    (w₁.getLsbD 12 && decide (¬16 ∣ (words.getD 3 0).toNat), .badAlign),
    (cell.round.isSome, .cellBusy) ]

/-- The BAD_FIELD conditions of CONTRIBUTE's first step, as the table of R170 gives them. -/
def contributeFieldFault (words : List Word) : Bool :=
  let w₂ := words.getD 2 0
  let w₃ := words.getD 3 0
  let w₄ := words.getD 4 0
  let dims := (w₂.extractLsb' 28 2).toNat
  let inner := (w₂.extractLsb' 13 13).toNat
  let middle := (w₂.extractLsb' 2 11).toNat
  let outer := (w₃.extractLsb' 23 9).toNat
  let prescale := (w₄.extractLsb' 26 6).toInt
  w₂.extractLsb' 30 2 == 3 || dims == 0
    || inner == 0 || decide (4096 < inner) || middle == 0 || decide (1024 < middle)
    || outer == 0 || decide (256 < outer)
    || (dims == 1 && w₃.extractLsb' 11 4 != 0) || ((dims == 1 || dims == 2) && w₃.extractLsb' 7 4 != 0)
    || decide (prescale < -16) || decide (15 < prescale) || decide (3 < (w₄.extractLsb' 23 3).toNat)

/-- The BAD_SHAPE conditions (R71). -/
def contributeShapeFault (words : List Word) : Bool :=
  let dims := ((words.getD 2 0).extractLsb' 28 2).toNat
  let inner := ((words.getD 2 0).extractLsb' 13 13).toNat
  let middle := ((words.getD 2 0).extractLsb' 2 11).toNat
  let outer := ((words.getD 3 0).extractLsb' 23 9).toNat
  (dims == 1 && middle != 1) || ((dims == 1 || dims == 2) && outer != 1)
    || decide (16777216 < inner * middle * outer)

/-- The alignment test of R73 on the descriptor of a CONTRIBUTE: true when the base or the value of a named entry is not
a multiple of the element size. -/
def contributeMisaligned (s : State) (words : List Word) : Bool :=
  let f := decodeContribute words
  f.format.any fun format =>
    decide (¬elementSize format ∣ f.base.toNat)
      || (decide (f.dims = 2 ∨ f.dims = 3) && decide (¬(elementSize format : Int) ∣ s.strides[f.middleEntry].value))
      || (decide (f.dims = 3) && decide (¬(elementSize format : Int) ∣ s.strides[f.outerEntry].value))

/-- The phase of the round of a cell is one of these. -/
def phaseIn (cell : Cell) (phases : List Phase) : Bool :=
  cell.round.any fun r => phases.contains r.phase

/-- The checks of CONTRIBUTE in the order of R28, for a command of host `h` taken in state `s`. -/
def contributeChecks (s : State) (h : HostId) (words : List Word) : List (Bool × StatusCode) :=
  let f := decodeContribute words
  let cell := s.cells[f.cell]
  [ (contributeFieldFault words, .badField),
    (contributeShapeFault words, .badShape),
    (cell.round.isNone, .cellFree),
    (decide (f.round ≠ cell.number), .wrongRound),
    (phaseIn cell [.draining, .publishing, .held], .roundClosed),
    (cell.round.any fun r => !member r.participants h, .notParticipant),
    (cell.round.any fun r => member r.posted h, .duplicate),
    (contributeMisaligned s words, .badAlign),
    (phaseIn cell [.collecting] && decide (32 ≤ s.contributions.length), .queueFull),
    (phaseIn cell [.collecting] && decide (16 ≤ s.hostCounts[h]), .hostQuota),
    (decide (32 ≤ placesTaken s.queues[h]), .noCredit) ]

/-- The checks of WAIT (R31). -/
def waitChecks (s : State) (h : HostId) (words : List Word) : List (Bool × StatusCode) :=
  let cell := s.cells[commandCell words]
  [ (cell.round.isNone, .cellFree),
    (decide (commandRound words ≠ cell.number), .wrongRound),
    (!phaseIn cell [.held] && cell.round.any fun r => member r.waitNotices h, .duplicate),
    (decide (32 ≤ placesTaken s.queues[h]), .noCredit) ]

/-- The checks of ABORT (R55). -/
def abortChecks (s : State) (h : HostId) (words : List Word) : List (Bool × StatusCode) :=
  let cell := s.cells[commandCell words]
  [ (cell.round.isNone, .cellFree),
    (cell.round.any fun r => decide (r.opener ≠ h), .notOpener),
    (decide (commandRound words ≠ cell.number), .wrongRound),
    (phaseIn cell [.draining, .publishing, .held], .roundClosed) ]

/-- The checks of RELEASE (R33). -/
def releaseChecks (s : State) (h : HostId) (words : List Word) : List (Bool × StatusCode) :=
  let cell := s.cells[commandCell words]
  [ (cell.round.isNone, .cellFree),
    (cell.round.any fun r => decide (r.opener ≠ h), .notOpener),
    (!phaseIn cell [.held], .notHeld) ]

/-- A completion queue with its notification line at the level of R162. -/
def withLine (q : CompletionQueue) (p : HostPort) : CompletionQueue :=
  { q with
    line := (decide (q.entries ≠ []) && p.completionEnable) || (decide (q.latch ≠ 0) && p.errorEnable) }

/-- A port after a port reset (R148, R149, R150). -/
def afterPortReset (p : HostPort) : HostPort :=
  { framing := .empty, ticket := 0, lastCode := .none, lastValue := 0, view := .command
    completionEnable := false, errorEnable := false
    awaited := if p.awaited ≤ 249 then p.awaited + 6 else p.awaited
    lineHeld := p.lineHeld, deferredResets := p.deferredResets
    lossNotices := if p.awaited ≤ 249 then p.lossNotices + 1 else p.lossNotices
    removals := if p.awaited ≤ 249 then p.removals + 1 else p.removals
    cuts := if p.awaited ≤ 249 then p.cuts.map (· + 1) else p.cuts
    acksReturned := p.acksReturned }

/-- The state after a port reset of `h` (R148, R163): the port, and its completion queue but for the error latch. -/
def portWasReset (s : State) (h : HostId) : State :=
  { s with
    ports := s.ports.set h (afterPortReset s.ports[h])
    queues := s.queues.set h
      { entries := [], reservations := 0, cursor := 0, latch := s.queues[h].latch, line := false } }

/-! ### The words of the statements: rounds -/

/-- The record of a round that a cell has just entered (R27, R43). -/
def newRound (opener : HostId) (participants : HostSet) (settings : Settings) (repeats : Bool) (timeout : Nat)
    (destination : Option Addr) : Round :=
  { phase := .collecting, opener := opener, participants := participants, posted := 0, arrived := 0
    settings := settings, repeats := repeats, final := false, destination := destination, timeout := timeout
    deadline := timeout
    accumulator := if settings.combine.operation = .sum then some 0 else none
    tallies := { combined := 0, voids := 0, saturations := 0, wraps := 0, losses := 0 }
    walkInFlight := none, inFlightHost := none, outcome := none, fault := none, result := none, publication := none
    contributionNotices := 0, waitNotices := 0, statuses := Vector.replicate 4 none }

/-- A round in which the posted hosts that are still pending, other than `except`, have joined arrived with `status`, and
which is otherwise `r` (R48 step 3, R50 step 4). -/
def pendingSettled (r r' : Round) (except : Option HostId) (status : ContributionStatus) : Prop :=
  r' = { r with arrived := r'.arrived, statuses := r'.statuses }
    ∧ ∀ g : HostId,
      if r.statuses[g] = some .pending ∧ except ≠ some g then
        member r'.arrived g = true ∧ r'.statuses[g] = some status
      else member r'.arrived g = member r.arrived g ∧ r'.statuses[g] = r.statuses[g]

/-- The flags of R19 for a round that did not complete. -/
def earlyFlags (t : Tallies) : RoundFlags :=
  { empty := false, saturated := decide (1 ≤ t.saturations), voidsSkipped := decide (1 ≤ t.voids)
    wrapped := decide (1 ≤ t.wraps), precisionLost := decide (1 ≤ t.losses) }

/-- A round that closes without COMPLETE (R49): timer stopped, result VOID with its flags. -/
def closedEarly (r : Round) : Round :=
  { r with deadline := 0, result := some { value := none, flags := earlyFlags r.tallies } }

/-- The entries that `leaves` holds of have left the Pending Queue and nothing else of the queue or of the Stride Table
has changed but by their departure (R89, R96): the rest keep their order, each host's count falls by its departures,
each stride entry's count by their namings. -/
def entriesLeft (leaves : Contribution → Bool) (s t : State) : Prop :=
  t.contributions = s.contributions.filter (fun e => !leaves e)
    ∧ (∀ g : HostId,
      t.hostCounts[g] = s.hostCounts[g] - s.contributions.countP (fun e => leaves e && decide (e.host = g)))
    ∧ ∀ x : StrideId,
      t.strides[x] =
        { s.strides[x] with
          count := s.strides[x].count - ((s.contributions.filter leaves).map (fun e => e.refs.count x)).sum }

/-- The notices of a round for one host, as entries, in the order of R40. -/
def noticesOf (c : CellId) (number : RoundNumber) (r : Round) (g : HostId) : List Entry :=
  let entry (kind : NoticeKind) : Entry := .notice
    { kind := kind, cell := c, number := number, outcome := r.outcome, publication := r.publication
      result := BitVec.ofInt 64 ((r.result.bind (·.value)).getD (if r.settings.width = .w32 then -(2 ^ 31) else -(2 ^ 47)))
      combined := r.tallies.combined, voids := r.tallies.voids
      flags := (r.result.map (·.flags)).getD noFlags, fault := r.fault }
  (if member r.contributionNotices g then [entry (.contributionEnd r.statuses[g])] else [])
    ++ (if member r.waitNotices g then [entry .waitEnd] else [])

/-- The kinds that a notice adds to the error latch (R160), in the bits of section 10.6: WRITE_FAILED 4, LOST 3, ABORTED
2, EXPIRED 1, FAULTED 0. COMPLETE, WRITTEN and NOT_WRITTEN add nothing. -/
def kindsGained (outcome : Option RoundOutcome) (publication : Option PublicationStatus) : LatchSet :=
  (match outcome with
    | some .faulted => 0b00001
    | some .expired => 0b00010
    | some .aborted => 0b00100
    | some .lost => 0b01000
    | some .complete => 0b00000
    | none => 0b00000)
  ||| match publication with
    | some .writeFailed => 0b10000
    | some .written => 0b00000
    | some .notWritten => 0b00000
    | none => 0b00000

/-- The notices of a round have been posted (R40, R154, R160): as many of each host's as find a reservation, at the tail
of its queue, one reservation converted for each, its latch with the outcome and WRITE_FAILED where it was noticed, its
line following. -/
def noticesPosted (s t : State) (c : CellId) (number : RoundNumber) (r : Round) : Prop :=
  ∀ g : HostId,
    let posted := (noticesOf c number r g).take s.queues[g].reservations
    t.queues[g] =
      withLine
        { s.queues[g] with
          entries := s.queues[g].entries ++ posted
          reservations := s.queues[g].reservations - posted.length
          latch :=
            if posted = [] then s.queues[g].latch
            else s.queues[g].latch ||| kindsGained r.outcome r.publication }
        s.ports[g]

/-- The cell after its disposition (R41 to R44). -/
def disposed (number : RoundNumber) (r : Round) : Cell :=
  if r.final = true then { number := number, round := none }
  else if r.repeats = true then
    { number := number + 1
      round := some (newRound r.opener r.participants r.settings true r.timeout r.destination) }
  else { number := number, round := some { r with phase := .held, contributionNotices := 0, waitNotices := 0 } }

/-- The cell that has handed on the round `r` (R38): PUBLISHING with a destination, else after its disposition with
NOT_WRITTEN. -/
def cellHandedOn (number : RoundNumber) (r : Round) : Cell :=
  if r.destination = none then disposed number { r with publication := some .notWritten }
  else { number := number, round := some { r with phase := .publishing } }

/-- Cell `c` has handed on the round `r` (R38): with a destination it is PUBLISHING, behind the cells queued before it,
and an idle Publisher takes the head of that queue at once (R127); with none the publication status is NOT_WRITTEN, the
notices are posted and the cell takes its disposition. -/
def handedOn (s t : State) (c : CellId) (r : Round) : Prop :=
  let number := s.cells[c].number
  let unwritten : Round := { r with publication := some .notWritten }
  (r.destination ≠ none →
      t =
          { s with
            cells := s.cells.set c { number := number, round := some { r with phase := .publishing } }
            publisher := t.publisher, publicationQueue := t.publicationQueue }
        ∧ (s.publisher ≠ none → t.publisher = s.publisher ∧ t.publicationQueue = s.publicationQueue ++ [c])
        ∧ (s.publisher = none → ∀ d rest, s.publicationQueue ++ [c] = d :: rest →
          t.publisher = composeRecord d t.cells[d] ∧ t.publicationQueue = rest))
    ∧ (r.destination = none →
      t = { s with cells := s.cells.set c (disposed number unwritten), queues := t.queues }
        ∧ (LineLaw s → noticesPosted s t c number unwritten))

/-! ### The words of the statements: walk units -/

/-- The treatment of elements one after another in the order given (R105, R106): the working values they leave, or the
exception of the first that raises one, with its place. -/
def treatInOrder (walk : Walk) (working : Option Int) (tallies : Tallies) :
    List (Place × Answer) → Except (ExceptionKind × Place) (Option Int × Tallies)
  | [] => .ok (working, tallies)
  | (place, answer) :: rest =>
    match treatAnswer walk.settings walk.contribution.descriptor.format walk.contribution.prescale working tallies
        place.address place.size answer with
    | .raised kind => .error (kind, place)
    | .recorded working' tallies' => treatInOrder walk working' tallies' rest

/-- The first report for cell `c` of the kind asked for is `m`, and `rest` are the other reports in their order. -/
def firstReport (s : State) (c : CellId) (kind : ReportKind → Bool) (m : WalkReport) (rest : List WalkReport) : Prop :=
  ∃ front back,
    s.walkReports = front ++ m :: back ∧ rest = front ++ back ∧ m.cell = c ∧ kind m.kind = true
      ∧ ∀ x ∈ front, ¬(x.cell = c ∧ kind x.kind = true)

/-- Unit `w` has stopped holding the contribution of `walk` and sent a report of this kind, keeping only the outstanding
places of `window` (R107, R110, R112): working values given up, stride references released, HOLD owner given up, a grant
of the unit withdrawn. The grant's mark and the working values after the walk are the model's reading, logs 13 and 16. -/
def walkEnded (s t : State) (w : UnitId) (walk : Walk) (window : Vector (Option Place) 4) (kind : ReportKind) : Prop :=
  t.units[w].generator = s.units[w].generator
    ∧ (∀ k : PlaceId, t.units[w].window[k] = if placeOutstanding window[k] then window[k] else none)
    ∧ t.units[w].mode = (if ∃ k : PlaceId, placeOutstanding window[k] = true then .stopping else .idle)
    ∧ t.units[w].working = none
    ∧ t.units[w].tallies = { combined := 0, voids := 0, saturations := 0, wraps := 0, losses := 0 }
    ∧ otherUnits w s t
    ∧ (∀ x : StrideId,
      t.strides[x] = { s.strides[x] with count := s.strides[x].count - walk.contribution.refs.count x })
    ∧ t.holdOwner = (if s.holdOwner = some w then none else s.holdOwner)
    ∧ t.grant = s.grant.map (fun g => if g.requester = .walkUnit w then { g with withdrawn := true } else g)
    ∧ t.walkReports = s.walkReports ++
      [{ cell := walk.contribution.cell, round := walk.contribution.round, host := walk.contribution.host
         unit := w, kind := kind }]

/-- The generator of a walk after it has handed over `n` elements. -/
def generatorAfter (strides : Vector StrideEntry 16) (d : Descriptor) : Nat → Generator
  | 0 => startGenerator d
  | n + 1 => advanceGenerator strides d (generatorAfter strides d n)

/-- A descriptor that passes R70 and R71 as to its dims and counts. -/
def shapeSound (d : Descriptor) : Prop :=
  1 ≤ d.inner ∧ 1 ≤ d.middle ∧ 1 ≤ d.outer
    ∧ (d.dims = 1 ∧ d.middle = 1 ∧ d.outer = 1 ∨ d.dims = 2 ∧ d.outer = 1 ∨ d.dims = 3)

/-- Combining a list of prescaled values one after another (R8 to R10). -/
def combineAll (settings : CombineSettings) : Treatment → List Int → Treatment
  | treatment, [] => treatment
  | .raised kind, _ :: _ => .raised kind
  | .recorded accumulator tallies, v :: rest =>
    combineAll settings (combineValue settings accumulator v tallies) rest

end Sys2Proof.Safety
end

