-- ==== Sys2Proof/Certificates/Slice0/Obligations.lean ====
section
/-! DEFINITION. The statements for the provers, each a Prop under the name that OBLIGATIONS.json lists.

The next state of an event is written `State.settle` of what its own effect leaves: the grant whose conditions it makes hold
is made in it (R124), and so are the dispatches it makes possible (R99); log 11. What `State.settle` does is stated whole by
DispatchPairsTheFirstEligibleEntry and ArbiterGrantsByRank: where nothing is due it changes nothing. -/

open Sys2Proof Sys2Proof.Machine Sys2Proof.Safety

/-! ### The queue of commands and the clock -/

/-- A step takes the command at the front of the queue and runs exec on it with the queue's rest. -/
def Obligations.StepTakesTheFrontCommand : Prop :=
  ∀ (s : State) (i : Instr) (rest : List Instr),
    s.pending = i :: rest → step s = exec i { s with pending := rest }

/-- No command's own effect touches the queue of the commands that wait, of all 44 rows. -/
def Obligations.ExecKeepsTheCommandQueue : Prop :=
  ∀ (i : Instr) (s t : State), exec i s = .next t → t.pending = s.pending

/-- On an empty queue one clock period passes (section 11.1). That the empty queue is where periods pass is the
model's choice, log 4. That ticks issued wait in a count for each timer is the model's reading, log 5. -/
def Obligations.EmptyQueueCountsOneClockPeriod : Prop :=
  ∀ s : State, s.pending = [] →
    (s.deviceReset = true → step s = .next s.settle)
      ∧ (s.deviceReset = false → s.tickCounter + 1 < s.periods →
        step s = .next (State.settle { s with tickCounter := s.tickCounter + 1 }))
      ∧ (s.deviceReset = false → s.periods ≤ s.tickCounter + 1 →
        ∃ t : State, step s = .next t.settle
          ∧ t = { s with tickCounter := 0, deadlineTicks := t.deadlineTicks, responseTicks := t.responseTicks }
          ∧ (∀ c : CellId, t.deadlineTicks[c] = s.deadlineTicks[c] + 1)
          ∧ ∀ k : SlotId, t.responseTicks[k] = s.responseTicks[k] + 1)

/-- The stops of the model: an event that is not there to be taken is refused by name (the model's choice, log 6). An
access on a host bus that holds a write, a command that has not been handed over, a message, tick, answer or grant
that is not on its way, a tick that does not bring its timer to 0, an input already at the level. That the expiry and
timeout rows stand for the last tick alone is the model's reading, log 5. -/
def Obligations.EventsNotThereAreRefused : Prop :=
  ∀ (s : State) (h : HostId) (c : CellId) (w : UnitId) (k : PlaceId) (t : SlotId),
    (∀ words stage, s.ports[h].framing = .delivering words stage → ∀ (v : Word) (location : ReadOnlyLocation) (i : Instr),
        i ∈ [ .commandWrite h v, .unknownCommand h v, .ignoredWrite h location v, .responseRead h, .portReset h v,
          .discard h v, .ack h v, .setEnables h v, .selectView h v ] → exec i s = .refused .busHeld)
      ∧ (∀ (i : Instr) (code : Nat),
        (i, code) ∈ [ (.openCell h, 1), (.contribute h, 2), (.wait h, 3), (.abort h, 4), (.release h, 5), (.query h, 6),
          (.setStride h, 7), (.readStride h, 8) ] →
        (∀ words, ¬handedOver s h code words) → exec i s = .refused .notHandedOver)
      ∧ ((∀ words code value, s.ports[h].framing ≠ .delivering words (.decided code value)) →
        exec (.commandDecision h) s = .refused .noDecision)
      ∧ (s.ports[h].lineHeld = true → exec (.resetLineAsserted h) s = .refused .lineUnchanged)
      ∧ (s.ports[h].lineHeld = false → exec (.resetLineReleased h) s = .refused .lineUnchanged)
      ∧ (s.deviceReset = true → exec .deviceReset s = .refused .lineUnchanged
        ∧ exec .tick s = .refused .heldInDeviceReset)
      ∧ (s.deviceReset = false → ∀ straps, exec (.deviceResetRelease straps) s = .refused .lineUnchanged)
      ∧ (s.ports[h].acksReturned = 0 → exec (.acknowledgement h) s = .refused .noAcknowledgement)
      ∧ (s.ports[h].lossNotices = 0 → exec (.lossNotice h) s = .refused .noNotice)
      ∧ (s.ports[h].removals = 0 → exec (.removal h) s = .refused .noNotice)
      ∧ (s.ports[h].cuts[w] = 0 → exec (.cut w h) s = .refused .noNotice)
      ∧ (∀ round, { unit := w, cell := c, round := round } ∉ s.cancels → exec (.cancel w c round) s = .refused .noCancel)
      ∧ ((∀ m ∈ s.walkReports, m.cell = c → isDone m.kind = false) → exec (.walkEndDone c) s = .refused .noReport)
      ∧ ((∀ m ∈ s.walkReports, m.cell = c → isFault m.kind = false) → exec (.walkEndFault c) s = .refused .noReport)
      ∧ ((∀ m ∈ s.walkReports, m.cell = c → isCut m.kind = false) → exec (.walkEndCut c) s = .refused .noReport)
      ∧ ((∀ m ∈ s.publicationReports, m.cell ≠ c) → exec (.publicationDone c) s = .refused .noPublicationReport)
      ∧ ((∀ g, s.grant = some g → g.requester ≠ .walkUnit w) → exec (.readGrantTaken w) s = .refused .noGrant)
      ∧ ((∀ g, s.grant = some g → g.requester ≠ .publisher) → exec .writeGrantTaken s = .refused .noGrant)
      ∧ (s.answers[placeSlot w k] = none → exec (.walkUnitAnswer w k) s = .refused .noAnswer)
      ∧ (s.answers[publisherSlot] = none → exec .publisherAnswer s = .refused .noAnswer)
      ∧ (s.deadlineTicks[c] = 0 → exec (.deadlineTimerTick c) s = .refused .noTick
        ∧ exec (.deadlineExpiry c) s = .refused .noTick)
      ∧ ((∀ r, s.cells[c].round = some r →
            r.timeout = 0 ∨ (r.phase ≠ .collecting ∧ r.phase ≠ .absorbing) ∨ 2 ≤ r.deadline) →
        exec (.deadlineExpiry c) s = .refused .noTick)
      ∧ (s.slots[t].outstanding = false ∨ 2 ≤ s.slots[t].timer → exec (.responseTimeout t) s = .refused .noTick)
      ∧ (s.responseTicks[t] = 0 → exec (.responseTimerTick t) s = .refused .noTick
        ∧ exec (.responseTimeout t) s = .refused .noTick)

/-! ### Layouts of chapter 10 -/

/-- The fields of an OPEN are the bits of its words that section 10.2 gives, and its settings are those the encodings
name. -/
def Obligations.OpenWordsDecodeByTheirBits : Prop :=
  ∀ w₀ w₁ w₂ w₃ : Word,
    let f := decodeOpen [w₀, w₁, w₂, w₃]
    f.cell.val = (w₀.extractLsb' 16 6).toNat
      ∧ f.participants = w₀.extractLsb' 0 4
      ∧ f.repeats = w₁.getLsbD 13
      ∧ f.timeout = (w₂.extractLsb' 0 16).toNat
      ∧ f.destination = (if w₁.getLsbD 12 then some w₃ else none)
      ∧ ∀ settings, f.settings = some settings →
        (w₁.extractLsb' 30 2 =
            match settings.combine.operation with | .sum => 0#2 | .max => 1#2 | .min => 2#2)
          ∧ (w₁.extractLsb' 28 2 =
            match settings.combine.overflow with | .saturate => 0#2 | .wrap => 1#2 | .trap => 2#2)
          ∧ (w₁.extractLsb' 26 2 = match settings.output with | .saturate => 0#2 | .trap => 2#2)
          ∧ (w₁.extractLsb' 24 2 = match settings.combine.rounding with | .chop => 0#2 | .nearest => 1#2)
          ∧ (w₁.extractLsb' 22 2 = match settings.combine.voidPolicy with | .skip => 0#2 | .trap => 1#2)
          ∧ settings.combine.precisionReporting = w₁.getLsbD 21
          ∧ (w₁.extractLsb' 19 2 = match settings.width with | .w32 => 0#2 | .w48 => 1#2)
          ∧ settings.postShift = (w₁.extractLsb' 14 5).toNat

/-- The fields of a CONTRIBUTE are the bits of its words that section 10.2 gives. -/
def Obligations.ContributeWordsDecodeByTheirBits : Prop :=
  ∀ w₀ w₁ w₂ w₃ w₄ : Word,
    let f := decodeContribute [w₀, w₁, w₂, w₃, w₄]
    f.cell.val = (w₀.extractLsb' 16 6).toNat
      ∧ f.round = w₀.extractLsb' 0 16
      ∧ f.base = w₁
      ∧ (w₂.extractLsb' 30 2 =
        match f.format with | some .s8 => 0#2 | some .s16 => 1#2 | some .s32 => 2#2 | none => 3#2)
      ∧ f.dims = (w₂.extractLsb' 28 2).toNat
      ∧ f.inner = (w₂.extractLsb' 13 13).toNat
      ∧ f.middle = (w₂.extractLsb' 2 11).toNat
      ∧ f.outer = (w₃.extractLsb' 23 9).toNat
      ∧ f.step = (w₃.extractLsb' 15 8).toInt
      ∧ f.middleEntry.val = (w₃.extractLsb' 11 4).toNat
      ∧ f.outerEntry.val = (w₃.extractLsb' 7 4).toNat
      ∧ f.prescale = (w₄.extractLsb' 26 6).toInt
      ∧ f.priority = (w₄.extractLsb' 23 3).toNat
      ∧ f.hold = w₄.getLsbD 22

/-- Which commands pass the port's checks (section 8.3): the declared length is the code's and every reserved bit is 0;
and which word a refusal names. -/
def Obligations.PortCheckPassesByLengthAndReservedBits : Prop :=
  (∀ w₀ w₁ w₂ w₃ : Word, w₀.extractLsb' 28 4 = 1#4 →
      (portCheck [w₀, w₁, w₂, w₃] = none ↔
        w₀.extractLsb' 25 3 = 4#3 ∧ w₀.extractLsb' 22 3 = 0#3 ∧ w₀.extractLsb' 4 12 = 0#12
          ∧ w₁.extractLsb' 0 12 = 0#12 ∧ w₂.extractLsb' 16 16 = 0#16))
    ∧ (∀ w₀ w₁ w₂ w₃ w₄ : Word, w₀.extractLsb' 28 4 = 2#4 →
      (portCheck [w₀, w₁, w₂, w₃, w₄] = none ↔
        w₀.extractLsb' 25 3 = 5#3 ∧ w₀.extractLsb' 22 3 = 0#3
          ∧ w₂.extractLsb' 26 2 = 0#2 ∧ w₂.extractLsb' 0 2 = 0#2
          ∧ w₃.extractLsb' 0 7 = 0#7 ∧ w₄.extractLsb' 0 22 = 0#22))
    ∧ (∀ w : Word, w.extractLsb' 28 4 = 3#4 →
      (portCheck [w] = none ↔ w.extractLsb' 25 3 = 1#3 ∧ w.extractLsb' 22 3 = 0#3))
    ∧ (∀ w : Word, w.extractLsb' 28 4 = 4#4 →
      (portCheck [w] = none ↔ w.extractLsb' 25 3 = 1#3 ∧ w.extractLsb' 22 2 = 0#2))
    ∧ (∀ w : Word, w.extractLsb' 28 4 = 5#4 ∨ w.extractLsb' 28 4 = 6#4 →
      (portCheck [w] = none ↔
        w.extractLsb' 25 3 = 1#3 ∧ w.extractLsb' 22 3 = 0#3 ∧ w.extractLsb' 0 16 = 0#16))
    ∧ (∀ w₀ w₁ : Word, w₀.extractLsb' 28 4 = 7#4 →
      (portCheck [w₀, w₁] = none ↔ w₀.extractLsb' 25 3 = 2#3 ∧ w₀.extractLsb' 4 21 = 0#21))
    ∧ (∀ w : Word, w.extractLsb' 28 4 = 8#4 →
      (portCheck [w] = none ↔ w.extractLsb' 25 3 = 1#3 ∧ w.extractLsb' 4 21 = 0#21))
    ∧ (∀ (words : List Word),
      codeLength (commandCode (words.getD 0 0)) ≠ some (bitField (words.getD 0 0) 27 25) → portCheck words = some 0)
    ∧ ∀ (words : List Word) (i : Nat),
      codeLength (commandCode (words.getD 0 0)) = some (bitField (words.getD 0 0) 27 25) → portCheck words = some i →
        i < words.length
          ∧ words.getD i 0 &&& reservedMask (commandCode (words.getD 0 0)) i ≠ 0
          ∧ ∀ j, j < i → words.getD j 0 &&& reservedMask (commandCode (words.getD 0 0)) j = 0

/-- The words of a CONTRIBUTION_END and a WAIT_END hold each content of the notice in the bits of section 10.5, and
the first word tells how many words there are. That a word takes its count modulo the width of the field is the
model's reading, log 20. -/
def Obligations.NoticeWordsFollowTheirLayout : Prop :=
  ∀ n : Notice,
    let ws := noticeWords n
    ws.length = (if n.fault.isSome then 8 else 6)
      ∧ ((ws.getD 0 0).extractLsb' 0 4).toNat = ws.length
      ∧ (ws.getD 0 0).extractLsb' 28 4 = (match n.kind with | .contributionEnd _ => 1#4 | .waitEnd => 2#4)
      ∧ ((ws.getD 0 0).extractLsb' 22 6).toNat = n.cell.val
      ∧ (ws.getD 0 0).extractLsb' 19 3 =
        (match n.outcome with
          | none => 0#3 | some .complete => 1#3 | some .faulted => 2#3 | some .expired => 3#3
          | some .aborted => 4#3 | some .lost => 5#3)
      ∧ (∀ status, n.kind = .contributionEnd (some status) → status ≠ .pending →
        (ws.getD 0 0).extractLsb' 16 3 =
          (match status with
            | .pending => 0#3 | .walked => 1#3 | .faulting => 2#3 | .cut => 3#3 | .absorbed => 4#3 | .dropped => 5#3))
      ∧ (n.kind = .waitEnd → (ws.getD 0 0).extractLsb' 16 3 = 0#3)
      ∧ (ws.getD 0 0).extractLsb' 13 3 = 0#3
      ∧ ((ws.getD 0 0).getLsbD 8 = n.flags.empty ∧ (ws.getD 0 0).getLsbD 9 = n.flags.saturated
        ∧ (ws.getD 0 0).getLsbD 10 = n.flags.voidsSkipped ∧ (ws.getD 0 0).getLsbD 11 = n.flags.wrapped
        ∧ (ws.getD 0 0).getLsbD 12 = n.flags.precisionLost)
      ∧ (ws.getD 0 0).extractLsb' 4 4 = 0#4
      ∧ (ws.getD 1 0).extractLsb' 0 16 = n.number
      ∧ (ws.getD 1 0).extractLsb' 16 2 =
        (match n.publication with
          | none => 0#2 | some .written => 1#2 | some .writeFailed => 2#2 | some .notWritten => 3#2)
      ∧ (ws.getD 1 0).extractLsb' 18 14 = 0#14
      ∧ ws.getD 2 0 = n.result.extractLsb' 0 32
      ∧ ws.getD 3 0 = n.result.extractLsb' 32 32
      ∧ (ws.getD 4 0).toNat = n.combined % 2 ^ 32
      ∧ (ws.getD 5 0).toNat = n.voids % 2 ^ 32
      ∧ ∀ f, n.fault = some f →
        (ws.getD 6 0).extractLsb' 28 4 =
            (match f.kind with
              | .voidOperand => 1#4 | .precision => 2#4 | .overflow => 3#4 | .resultRange => 4#4 | .busError => 5#4
              | .busTimeout => 6#4)
          ∧ (ws.getD 6 0).getLsbD 27 = f.element.isSome
          ∧ (ws.getD 6 0).getLsbD 24 = false
          ∧ (f.element = none → (ws.getD 6 0).extractLsb' 0 28 = 0#28 ∧ ws.getD 7 0 = 0)
          ∧ ∀ e, f.element = some e →
            ((ws.getD 6 0).extractLsb' 25 2).toNat = e.host.val
              ∧ ((ws.getD 6 0).extractLsb' 0 24).toNat = e.index % 2 ^ 24
              ∧ ws.getD 7 0 = e.address

/-- The words of a REPORT hold the snapshot in the bits of section 10.5: ten words for a cell with no fault record,
two more with the record's kind, element items and address for a cell that holds one, the state and round alone for a
FREE cell. That a word takes its count modulo the width of the field is the model's reading, log 20. -/
def Obligations.ReportWordsFollowTheirLayout : Prop :=
  ∀ (c : CellId) (number : RoundNumber),
    reportWords { cell := c, record := { number := number, round := none } } =
        [ 3#4 ++ BitVec.ofNat 6 c.val ++ 10#22, number.setWidth 32, 0, 0, 0, 0, 0, 0, 0, 0 ]
      ∧ ∀ r : Round,
        let ws := reportWords { cell := c, record := { number := number, round := some r } }
        ws.length = (if r.fault.isSome then 12 else 10)
          ∧ ((ws.getD 0 0).extractLsb' 0 4).toNat = ws.length
          ∧ (ws.getD 0 0).extractLsb' 28 4 = 3#4
          ∧ ((ws.getD 0 0).extractLsb' 22 6).toNat = c.val
          ∧ (ws.getD 0 0).extractLsb' 19 3 =
            (match r.phase with
              | .collecting => 1#3 | .absorbing => 2#3 | .draining => 3#3 | .publishing => 4#3 | .held => 5#3)
          ∧ (ws.getD 0 0).extractLsb' 16 3 =
            (match r.outcome with
              | none => 0#3 | some .complete => 1#3 | some .faulted => 2#3 | some .expired => 3#3
              | some .aborted => 4#3 | some .lost => 5#3)
          ∧ (ws.getD 0 0).getLsbD 15 = true
          ∧ ((ws.getD 0 0).extractLsb' 13 2).toNat = r.opener.val
          ∧ (ws.getD 0 0).getLsbD 12 = r.walkInFlight.isSome
          ∧ (ws.getD 0 0).getLsbD 11 = r.accumulator.isSome
          ∧ (ws.getD 0 0).extractLsb' 4 7 = 0#7
          ∧ (ws.getD 1 0).extractLsb' 0 16 = number
          ∧ (ws.getD 1 0).extractLsb' 16 4 = r.participants
          ∧ (ws.getD 1 0).extractLsb' 20 4 = r.posted
          ∧ (ws.getD 1 0).extractLsb' 24 4 = r.arrived
          ∧ (ws.getD 1 0).extractLsb' 28 4 = 0#4
          ∧ (r.accumulator = none → ws.getD 2 0 = 0 ∧ ws.getD 3 0 = 0)
          ∧ (∀ a, r.accumulator = some a → ws.getD 3 0 ++ ws.getD 2 0 = BitVec.ofInt 64 a)
          ∧ (ws.getD 4 0).toNat = r.tallies.combined % 2 ^ 32
          ∧ (ws.getD 5 0).toNat = r.tallies.voids % 2 ^ 32
          ∧ (ws.getD 6 0).toNat = r.tallies.saturations % 2 ^ 32
          ∧ (ws.getD 7 0).toNat = r.tallies.wraps % 2 ^ 32
          ∧ (ws.getD 8 0).toNat = r.tallies.losses % 2 ^ 32
          ∧ (ws.getD 9 0).toNat = r.deadline % 2 ^ 16
          ∧ ∀ f, r.fault = some f →
            (ws.getD 10 0).extractLsb' 28 4 =
                (match f.kind with
                  | .voidOperand => 1#4 | .precision => 2#4 | .overflow => 3#4 | .resultRange => 4#4 | .busError => 5#4
                  | .busTimeout => 6#4)
              ∧ (ws.getD 10 0).getLsbD 27 = f.element.isSome
              ∧ (ws.getD 10 0).getLsbD 24 = false
              ∧ (f.element = none → (ws.getD 10 0).extractLsb' 0 28 = 0#28 ∧ ws.getD 11 0 = 0)
              ∧ ∀ e, f.element = some e →
                ((ws.getD 10 0).extractLsb' 25 2).toNat = e.host.val
                  ∧ ((ws.getD 10 0).extractLsb' 0 24).toNat = e.index % 2 ^ 24
                  ∧ ws.getD 11 0 = e.address

/-- The publication record holds the result, sign-extended or the width's VOID, then elements combined, round number,
outcome and flags, each at its bytes, and is composed with the destination and the step FIRST_WRITE (section 7.4,
section 10.7). -/
def Obligations.PublicationRecordHoldsTheRound : Prop :=
  ∀ (c : CellId) (number : RoundNumber) (r : Round) (d : Addr) (res : RoundResult),
    r.destination = some d → r.result = some res → r.tallies.combined < 2 ^ 32 →
      ∃ p, composeRecord c { number := number, round := some r } = some p
        ∧ p.cell = c ∧ p.destination = d ∧ p.step = .firstWrite ∧ p.waiting = false
        ∧ (∀ v, res.value = some v → p.firstHalf = BitVec.ofInt 64 v)
        ∧ (res.value = none →
          p.firstHalf =
            match r.settings.width with | .w32 => 0xFFFFFFFF80000000#64 | .w48 => 0xFFFF800000000000#64)
        ∧ (p.secondHalf.extractLsb' 0 32).toNat = r.tallies.combined
        ∧ p.secondHalf.extractLsb' 32 16 = number
        ∧ p.secondHalf.extractLsb' 48 8 =
          (match r.outcome with
            | none => 0#8 | some .complete => 1#8 | some .faulted => 2#8 | some .expired => 3#8
            | some .aborted => 4#8 | some .lost => 5#8)
        ∧ p.secondHalf.getLsbD 56 = res.flags.empty ∧ p.secondHalf.getLsbD 57 = res.flags.saturated
        ∧ p.secondHalf.getLsbD 58 = res.flags.voidsSkipped ∧ p.secondHalf.getLsbD 59 = res.flags.wrapped
        ∧ p.secondHalf.getLsbD 60 = res.flags.precisionLost
        ∧ p.secondHalf.extractLsb' 61 3 = 0#3

/-! ### The combining arithmetic (chapter 1) -/

/-- A prescale of 0 to 15 multiplies exactly by a power of two, within the bound of R4 and with no precision loss. A
prescale of −16 to −1 divides by 2^k: CHOP truncates toward zero, NEAREST gives the nearest integer and takes a tie away
from zero (R5), and the loss of R6 is a nonzero remainder. -/
def Obligations.PrescaleMultipliesOrRounds : Prop :=
  (∀ (mode : Rounding) (s x : Int), 0 ≤ s → s ≤ 15 →
      prescaled mode s x = x * 2 ^ s.toNat
        ∧ prescaleLoses s x = false
        ∧ (|x| ≤ 2147483647 → |prescaled mode s x| ≤ 70368744144896))
    ∧ ∀ (k : Nat) (x : Int), 1 ≤ k → k ≤ 16 →
      let chop := prescaled .chop (-(k : Int)) x
      let nearest := prescaled .nearest (-(k : Int)) x
      (|chop| * 2 ^ k ≤ |x| ∧ |x| < (|chop| + 1) * 2 ^ k ∧ 0 ≤ chop * x)
        ∧ (2 * |x - nearest * 2 ^ k| ≤ 2 ^ k ∧ 0 ≤ nearest * x
          ∧ (2 * |x - nearest * 2 ^ k| = 2 ^ k → |x| < |nearest| * 2 ^ k))
        ∧ (prescaleLoses (-(k : Int)) x = true ↔ ¬(2 ^ k : Int) ∣ x)
        ∧ ((2 ^ k : Int) ∣ x → chop = x / 2 ^ k ∧ nearest = x / 2 ^ k)
        ∧ (|x| ≤ 2147483647 → |chop| ≤ 2 ^ 30 ∧ |nearest| ≤ 2 ^ 30)

/-- The VOID test comes first and depends on the raw value alone (R2); a precision loss then raises PRECISION or is
counted with the element's other effects (R6); an element that raises leaves nothing recorded (R3). The raw value is the
signed number in the 1, 2 or 4 bytes that the element's address selects from its 8-byte unit, the lowest least
significant (R1). An ERROR or TIMEOUT answer raises BUS_ERROR or BUS_TIMEOUT whatever the settings, with no VOID test
and no combine (R13). -/
def Obligations.VoidAndPrecisionLossAreSettledFirst : Prop :=
  ∀ (settings : CombineSettings) (format : ElementFormat) (s : Int) (acc : Option Int) (t : Tallies) (x : Int),
    let void := match format with | .s8 => (-128 : Int) | .s16 => -32768 | .s32 => -2147483648
    let loses := s < 0 ∧ ¬((2 : Int) ^ (-s).toNat ∣ x)
    (x = void → settings.voidPolicy = .skip →
        treatElement settings format s acc t x = .recorded acc { t with voids := t.voids + 1 })
      ∧ (x = void → settings.voidPolicy = .trap → treatElement settings format s acc t x = .raised .voidOperand)
      ∧ (x ≠ void → loses → settings.precisionReporting = true →
        treatElement settings format s acc t x = .raised .precision)
      ∧ (x ≠ void → loses → settings.precisionReporting = false →
        treatElement settings format s acc t x =
          combineValue settings acc (prescaled settings.rounding s x) { t with losses := t.losses + 1 })
      ∧ (x ≠ void → ¬loses →
        treatElement settings format s acc t x = combineValue settings acc (prescaled settings.rounding s x) t)
      ∧ ∀ (address : Addr) (size : Nat),
        (∀ unit : DataUnit,
            treatAnswer settings format s acc t address size (.ok unit) =
                treatElement settings format s acc t (elementBytes unit address size)
              ∧ elementBytes unit address 1 = (unit.extractLsb' (8 * (address.toNat % 8)) 8).toInt
              ∧ elementBytes unit address 2 = (unit.extractLsb' (8 * (address.toNat % 8)) 16).toInt
              ∧ elementBytes unit address 4 = (unit.extractLsb' (8 * (address.toNat % 8)) 32).toInt)
          ∧ treatAnswer settings format s acc t address size .error = .raised .busError
          ∧ treatAnswer settings format s acc t address size .timeout = .raised .busTimeout

/-- SUM forms the exact sum; a sum in the symmetric range is taken, and one outside it is settled by the overflow policy
(R8, R9): clamped, reduced modulo 2^48 into −2^47..2^47−1, or OVERFLOW. -/
def Obligations.SumOverflowIsSettledByThePolicy : Prop :=
  ∀ (settings : CombineSettings) (a v : Int) (t : Tallies),
    settings.operation = .sum → -(2 ^ 47) ≤ a → a ≤ 2 ^ 47 - 1 → |v| < 2 ^ 46 →
      |a + v| < 2 ^ 47 + 2 ^ 46
        ∧ (|a + v| ≤ 2 ^ 47 - 1 →
          combineValue settings (some a) v t = .recorded (some (a + v)) { t with combined := t.combined + 1 })
        ∧ (2 ^ 47 - 1 < |a + v| → settings.overflow = .saturate →
          combineValue settings (some a) v t =
            .recorded (some (if 0 < a + v then 2 ^ 47 - 1 else -(2 ^ 47 - 1)))
              { t with combined := t.combined + 1, saturations := t.saturations + 1 })
        ∧ (2 ^ 47 - 1 < |a + v| → settings.overflow = .wrap →
          ∃ b : Int, combineValue settings (some a) v t =
              .recorded (some b) { t with combined := t.combined + 1, wraps := t.wraps + 1 }
            ∧ -(2 ^ 47) ≤ b ∧ b ≤ 2 ^ 47 - 1 ∧ (2 ^ 48 : Int) ∣ b - (a + v))
        ∧ (2 ^ 47 - 1 < |a + v| → settings.overflow = .trap →
          combineValue settings (some a) v t = .raised .overflow)

/-- Under MAX and MIN the result of combining does not depend on the order of the elements (section 1.4), and it is one of
them, or the accumulator, that none exceeds or undercuts (R10). -/
def Obligations.MaxAndMinAreOrderFree : Prop :=
  ∀ (settings : CombineSettings) (acc : Option Int) (t : Tallies) (l₁ l₂ : List Int),
    settings.operation ≠ .sum → l₁.Perm l₂ →
      combineAll settings (.recorded acc t) l₁ = combineAll settings (.recorded acc t) l₂
        ∧ (l₁ ≠ [] → ∃ m : Int,
          combineAll settings (.recorded acc t) l₁ =
              .recorded (some m) { t with combined := t.combined + l₁.length }
            ∧ (acc = some m ∨ m ∈ l₁)
            ∧ (settings.operation = .max → (∀ v ∈ l₁, v ≤ m) ∧ ∀ a, acc = some a → a ≤ m)
            ∧ (settings.operation = .min → (∀ v ∈ l₁, m ≤ v) ∧ ∀ a, acc = some a → m ≤ a))

/-- The output stage: an absent accumulator gives VOID (R17), a lossy post-shift raises PRECISION or is counted (R15), and
the shifted value is in the width's symmetric range, clamped into it, or RESULT_RANGE (R16). -/
def Obligations.OutputStageShiftsAndChecksTheRange : Prop :=
  ∀ (settings : Settings) (t : Tallies),
    outputStage settings none t = .result none t
      ∧ ∀ a : Int,
        let p := settings.postShift
        let lossy := 1 ≤ p ∧ ¬((2 : Int) ^ p ∣ a)
        let q := if p = 0 then a else prescaled settings.combine.rounding (-(p : Int)) a
        let top : Int := match settings.width with | .w32 => 2147483647 | .w48 => 140737488355327
        let t' := if lossy then { t with losses := t.losses + 1 } else t
        (lossy → settings.combine.precisionReporting = true → outputStage settings (some a) t = .raised .precision)
          ∧ (¬(lossy ∧ settings.combine.precisionReporting = true) →
            (|q| ≤ top → outputStage settings (some a) t = .result (some q) t')
              ∧ (top < |q| → settings.output = .saturate →
                outputStage settings (some a) t =
                  .result (some (if 0 < q then top else -top)) { t' with saturations := t'.saturations + 1 })
              ∧ (top < |q| → settings.output = .trap → outputStage settings (some a) t = .raised .resultRange))
          ∧ (1 ≤ p → p ≤ 16 → -(2 ^ 47) ≤ a → a ≤ 2 ^ 47 - 1 → |q| ≤ 2 ^ 46)

/-! ### Walks (chapter 4) -/

/-- The generator hands over element n of the walk at the address of R75's closed form, with the positions and the index
of R72, for every n below N; and after N elements it is exhausted. -/
def Obligations.GeneratorFollowsTheClosedForm : Prop :=
  ∀ (strides : Vector StrideEntry 16) (d : Descriptor) (n : Nat), shapeSound d →
    let g := generatorAfter strides d n
    let i := n % d.inner
    let m := n / d.inner % d.middle
    let o := n / (d.inner * d.middle)
    let a : Int := d.step * (elementSize d.format : Int)
    let middleStride : Int := if d.dims = 1 then 0 else strides[d.middleEntry].value
    let outerStride : Int := if d.dims = 3 then strides[d.outerEntry].value else 0
    let line : Int := (d.inner - 1 : Int) * a + middleStride
    let plane : Int := (d.middle - 1 : Int) * line + (d.inner - 1 : Int) * a + outerStride
    (n < d.inner * d.middle * d.outer →
        g.exhausted = false ∧ g.inner = i ∧ g.middle = m ∧ g.outer = o ∧ generatorIndex d g = n
          ∧ g.address = d.base + BitVec.ofInt 32 (o * plane + m * line + i * a))
      ∧ (d.inner * d.middle * d.outer ≤ n → g.exhausted = true)

/-- Every element address of a walk whose descriptor passes the alignment test is a multiple of the element size, so that
the element lies within one 8-byte unit (section 4.2). -/
def Obligations.EveryElementAddressIsAligned : Prop :=
  ∀ (strides : Vector StrideEntry 16) (d : Descriptor) (n : Nat), shapeSound d → misaligned strides d = false →
    let g := generatorAfter strides d n
    elementSize d.format ∣ g.address.toNat ∧ g.address.toNat % 8 + elementSize d.format ≤ 8

/-! ### Host ports (chapter 8) -/

/-- COMMAND_WRITE and UNKNOWN_COMMAND at a port that holds no write and is not held in reset: a first word with a code
other than 1 to 8 is refused at the port with the word as its value, a known one starts a command of its code's length
(OPEN 4, CONTRIBUTE 5, SET_STRIDE 2, the others 1), a word in ASSEMBLING is appended unexamined, and the last word
completes the command, which the port refuses with the word index or moves to DELIVERING. That both rows stand for one
access is the model's reading, log 7. -/
def Obligations.CommandWordsAreFramed : Prop :=
  ∀ (s : State) (h : HostId) (w : Word) (i : Instr),
    i = .commandWrite h w ∨ i = .unknownCommand h w → s.ports[h].lineHeld = false → s.deviceReset = false →
      let p := s.ports[h]
      let code := (w.extractLsb' 28 4).toNat
      let becomes (p' : HostPort) := exec i s = .next (State.settle { s with ports := s.ports.set h p' })
      let completes (words : List Word) : Prop :=
        (∀ index, portCheck words = some index →
            becomes
              { p with
                framing := .empty, ticket := p.ticket + 1, lastCode := .badField
                lastValue := 0x80000000 + BitVec.ofNat 32 (index % 8) })
          ∧ (portCheck words = none →
            becomes { p with framing := .delivering words (if p.awaited = 0 then .handed else .held) })
      (p.framing = .empty →
          (code = 0 ∨ 9 ≤ code → becomes { p with ticket := p.ticket + 1, lastCode := .unknownCommand, lastValue := w })
            ∧ (code = 1 → becomes { p with framing := .assembling [w] 4 })
            ∧ (code = 2 → becomes { p with framing := .assembling [w] 5 })
            ∧ (code = 7 → becomes { p with framing := .assembling [w] 2 })
            ∧ (3 ≤ code ∧ code ≤ 6 ∨ code = 8 → completes [w]))
        ∧ ∀ words expected, p.framing = .assembling words expected →
          (words.length + 1 ≠ expected → becomes { p with framing := .assembling (words ++ [w]) expected })
            ∧ (words.length + 1 = expected → completes (words ++ [w]))

/-- COMMAND_DECISION: the status is recorded, the framing returns to EMPTY, and the port resets that waited for the
decision are made in the same event, one for each cause taken meanwhile (the count is the model's reading, log 8). -/
def Obligations.DecisionIsRecordedAndReleasesAWaitingReset : Prop :=
  ∀ (s : State) (h : HostId) (words : List Word) (code : StatusCode) (value : Word),
    s.ports[h].framing = .delivering words (.decided code value) →
      let recorded : State :=
        { s with
          ports := s.ports.set h
            { s.ports[h] with
              framing := .empty, ticket := s.ports[h].ticket + 1, lastCode := code, lastValue := value
              deferredResets := 0 } }
      exec (.commandDecision h) s = .next (State.settle ((fun t => portWasReset t h)^[s.ports[h].deferredResets] recorded))

/-- IGNORED_WRITE has no effect. While the reset line is held or the device reset input is asserted, writes to COMMAND
and PORT CONTROL have none either; the release of the line changes the field alone, whatever the port delivers. That
several rows stand for one access is the model's reading, log 7. -/
def Obligations.IgnoredAccessesChangeNothing : Prop :=
  ∀ (s : State) (h : HostId),
    ((∀ words stage, s.ports[h].framing ≠ .delivering words stage) →
        (∀ location w, exec (.ignoredWrite h location w) s = .next s.settle)
          ∧ (s.ports[h].lineHeld = true ∨ s.deviceReset = true → ∀ w : Word,
            exec (.commandWrite h w) s = .next s.settle ∧ exec (.unknownCommand h w) s = .next s.settle
              ∧ exec (.portReset h w) s = .next s.settle ∧ exec (.discard h w) s = .next s.settle
              ∧ exec (.ack h w) s = .next s.settle ∧ exec (.setEnables h w) s = .next s.settle
              ∧ exec (.selectView h w) s = .next s.settle))
      ∧ (s.ports[h].lineHeld = true →
        exec (.resetLineReleased h) s =
          .next (State.settle { s with ports := s.ports.set h { s.ports[h] with lineHeld := false } }))

/-- The reads of the port window. RESPONSE_READ: the host bus carries the head entry's word at the read cursor, and
the cursor moves on or the entry is freed after its last word; with no entry, or in reset, it carries the NONE word
and nothing else changes. The word on the bus is held in the model's own field, log 15. PORT STATUS shows the fields
of its view in the bits of section 10.4, the status codes being those of section 10.3, and COMMAND and PORT CONTROL
read as zeros (R135, R142). That a port in DELIVERING shows the number of its command's words as the expected length
and no words held is the model's reading, log 16, and so is that a field takes its count modulo its width, log 20. -/
def Obligations.ReadsOfThePortWindowReturnTheirWords : Prop :=
  ∀ (s : State) (h : HostId),
    let p := s.ports[h]
    let q := s.queues[h]
    let status := portStatusWord s h
    ((∀ words stage, p.framing ≠ .delivering words stage) →
        let reads (w : Word) (q' : CompletionQueue) :=
          exec (.responseRead h) s =
            .next (State.settle { s with busData := s.busData.set h w, queues := s.queues.set h (withLine q' p) })
        (∀ e rest, q.entries = e :: rest → p.lineHeld = false → s.deviceReset = false →
            let w := (entryWords e).getD q.cursor 0
            (q.cursor + 1 < (entryWords e).length → reads w { q with cursor := q.cursor + 1 })
              ∧ ((entryWords e).length ≤ q.cursor + 1 → reads w { q with entries := rest, cursor := 0 }))
          ∧ (q.entries = [] ∨ p.lineHeld = true ∨ s.deviceReset = true → q = withLine q p →
            exec (.responseRead h) s = .next (State.settle { s with busData := s.busData.set h 0 })))
      ∧ (p.view = .command →
        status.extractLsb' 25 7 = 0#7 ∧ status.extractLsb' 23 2 = 0#2 ∧ status.getLsbD 22 = p.lineHeld
          ∧ status.getLsbD 21 = decide (1 ≤ p.awaited)
          ∧ (p.framing = .empty →
            status.extractLsb' 18 3 = 0#3 ∧ status.extractLsb' 15 3 = 0#3 ∧ status.extractLsb' 13 2 = 0#2)
          ∧ (∀ words expected, p.framing = .assembling words expected →
            (status.extractLsb' 18 3).toNat = expected % 8 ∧ (status.extractLsb' 15 3).toNat = words.length % 8
              ∧ status.extractLsb' 13 2 = 1#2)
          ∧ (∀ words stage, p.framing = .delivering words stage →
            (status.extractLsb' 18 3).toNat = words.length % 8 ∧ status.extractLsb' 15 3 = 0#3
              ∧ status.extractLsb' 13 2 = 2#2)
          ∧ status.extractLsb' 8 5 =
            (match p.lastCode with
              | .none => 0#5 | .accepted => 1#5 | .unknownCommand => 2#5 | .badField => 3#5 | .badShape => 4#5
              | .badAlign => 5#5 | .cellBusy => 6#5 | .cellFree => 7#5 | .wrongRound => 8#5 | .roundClosed => 9#5
              | .notOpener => 10#5 | .notParticipant => 11#5 | .duplicate => 12#5 | .queueFull => 13#5
              | .hostQuota => 14#5 | .noCredit => 15#5 | .strideBusy => 16#5 | .notHeld => 17#5)
          ∧ status.extractLsb' 0 8 = p.ticket)
      ∧ (p.view = .value → status = p.lastValue)
      ∧ (p.view = .queue →
        status.extractLsb' 26 6 = 0#6 ∧ status.extractLsb' 24 2 = 2#2 ∧ status.getLsbD 23 = q.line
          ∧ status.getLsbD 22 = p.errorEnable ∧ status.getLsbD 21 = p.completionEnable
          ∧ status.extractLsb' 16 5 = q.latch ∧ (status.extractLsb' 12 4).toNat = q.cursor % 16
          ∧ (status.extractLsb' 6 6).toNat = q.reservations % 64
          ∧ (status.extractLsb' 0 6).toNat = q.entries.length % 64)
      ∧ locationWord s h (locationAt 0#2) = 0 ∧ locationWord s h (locationAt 3#2) = 0
      ∧ locationWord s h (locationAt 2#2) = status
      ∧ locationWord s h (locationAt 1#2) =
        (if p.lineHeld = true ∨ s.deviceReset = true then 0
          else match q.entries with | [] => 0 | e :: _ => (entryWords e).getD q.cursor 0)

/-- PORT_RESET and RESET_LINE_ASSERTED make the port reset at once: the port record, the completion queue but for its
error latch, and six notices (none for a count above 249). A command of the port that is with its owner defers the reset
(counted by cause, the model's reading, log 8). That an assertion of the line makes its port reset, notices and all,
while the device reset input is asserted too is the model's reading, log 9. -/
def Obligations.PortResetClearsThePortAndItsQueue : Prop :=
  ∀ (s : State) (h : HostId),
    let held : State := { s with ports := s.ports.set h { s.ports[h] with lineHeld := true } }
    (∀ w : Word, w.getLsbD 31 = true → (∀ words stage, s.ports[h].framing ≠ .delivering words stage) →
        s.ports[h].lineHeld = false → s.deviceReset = false →
          exec (.portReset h w) s = .next (State.settle (portWasReset s h)))
      ∧ (s.ports[h].lineHeld = false →
        (∀ words stage, s.ports[h].framing = .delivering words stage → stage = .held) →
          exec (.resetLineAsserted h) s = .next (State.settle (portWasReset held h)))
      ∧ (s.ports[h].lineHeld = false → ∀ words stage, s.ports[h].framing = .delivering words stage → stage ≠ .held →
          exec (.resetLineAsserted h) s =
            .next
              (State.settle { s with
                ports := s.ports.set h
                  { s.ports[h] with lineHeld := true, deferredResets := s.ports[h].deferredResets + 1 } }))

/-- DISCARD, ACK, SET_ENABLES and SELECT_VIEW: a PORT CONTROL word without RESET makes every action it requests in the
one event, and the notification line follows. That each of the four rows carries the whole PORT CONTROL word is the
model's reading, log 7. -/
def Obligations.PortControlMakesEveryRequestedAction : Prop :=
  ∀ (s : State) (h : HostId) (w : Word) (i : Instr),
    i = .discard h w ∨ i = .ack h w ∨ i = .setEnables h w ∨ i = .selectView h w →
    w.getLsbD 31 = false → (∀ words stage, s.ports[h].framing ≠ .delivering words stage) →
    s.ports[h].lineHeld = false → s.deviceReset = false →
      let p := s.ports[h]
      let p' : HostPort :=
        { p with
          framing := if w.getLsbD 30 then .empty else p.framing
          completionEnable := if w.getLsbD 8 then w.getLsbD 9 else p.completionEnable
          errorEnable := if w.getLsbD 8 then w.getLsbD 10 else p.errorEnable
          view :=
            if w.getLsbD 12 = true ∧ w.extractLsb' 13 2 = 0#2 then .command
            else if w.getLsbD 12 = true ∧ w.extractLsb' 13 2 = 1#2 then .value
            else if w.getLsbD 12 = true ∧ w.extractLsb' 13 2 = 2#2 then .queue
            else p.view }
      let q := s.queues[h]
      exec i s =
        .next
          (State.settle { s with
            ports := s.ports.set h p'
            queues := s.queues.set h (withLine { q with latch := q.latch &&& ~~~(w.extractLsb' 0 5) } p') })

/-- ACKNOWLEDGEMENT: the acknowledgements awaited decrease by one, and a held command is handed over with the last.
That an acknowledgement is a message the port takes by its own row is the model's reading, log 7. -/
def Obligations.LastAcknowledgementHandsOverTheHeldCommand : Prop :=
  ∀ (s : State) (h : HostId), 1 ≤ s.ports[h].acksReturned → 1 ≤ s.ports[h].awaited →
    let p := s.ports[h]
    ∃ framing,
      exec (.acknowledgement h) s =
          .next
            (State.settle { s with
              ports := s.ports.set h
                { p with acksReturned := p.acksReturned - 1, awaited := p.awaited - 1, framing := framing } })
        ∧ (∀ words, p.framing = .delivering words .held →
          framing = .delivering words (if p.awaited = 1 then .handed else .held))
        ∧ ((∀ words, p.framing ≠ .delivering words .held) → framing = p.framing)

/-! ### Commands of the Cell Table and the Stride Table -/

/-- OPEN is refused with the code of its first failing check in the order of R26, changing nothing else. When all pass
it is accepted: the FREE cell enters COLLECTING with the record of R27 and the next round number, which is the status
value. -/
def Obligations.OpenIsCheckedInOrderAndStartsARound : Prop :=
  ∀ (s : State) (h : HostId) (words : List Word),
    let f := decodeOpen words
    let cell := s.cells[f.cell]
    handedOver s h 1 words →
      (∀ code, firstRefusal (openChecks words cell) = some code →
          exec (.openCell h) s = .next (State.settle (decisionOnly s h words code (cell.number.setWidth 32))))
        ∧ (firstRefusal (openChecks words cell) = none →
          ∃ settings, f.settings = some settings
            ∧ exec (.openCell h) s =
              .next
                (State.settle { s with
                  cells := s.cells.set f.cell
                    { number := cell.number + 1
                      round := some (newRound h f.participants settings f.repeats f.timeout f.destination) }
                  ports := s.ports.set h (decided s.ports[h] words .accepted ((cell.number + 1).setWidth 32)) }))

/-- CONTRIBUTE accepted into COLLECTING: the host joins posted and is pending, its notice and one queue place are
reserved, the contribution enters the Pending Queue at its place, its namings are bound. -/
def Obligations.ContributeIsQueuedAndBound : Prop :=
  ∀ (s : State) (h : HostId) (words : List Word) (format : ElementFormat) (r : Round),
    let f := decodeContribute words
    let cell := s.cells[f.cell]
    let d := contributeDescriptor f format
    let e : Contribution :=
      { cell := f.cell, round := f.round, host := h, descriptor := d, prescale := f.prescale, priority := f.priority
        hold := f.hold, refs := namings d }
    handedOver s h 2 words → f.format = some format → cell.round = some r → r.phase = .collecting →
    firstRefusal (contributeChecks s h words) = none → PriorityLaw s →
      ∃ (t : State) (front back : List Contribution), exec (.contribute h) s = .next t.settle
        ∧ s.contributions = front ++ back
        ∧ (∀ x ∈ front, f.priority ≤ x.priority) ∧ (∀ x ∈ back, x.priority < f.priority)
        ∧ t =
          { s with
            contributions := front ++ e :: back
            hostCounts := s.hostCounts.set h (s.hostCounts[h] + 1)
            strides := t.strides
            cells := s.cells.set f.cell
              { number := cell.number
                round := some
                  { r with
                    posted := r.posted ||| 1#4 <<< h.val
                    statuses := r.statuses.set h (some .pending)
                    contributionNotices := r.contributionNotices ||| 1#4 <<< h.val } }
            queues := s.queues.set h
              (withLine { s.queues[h] with reservations := s.queues[h].reservations + 1 } s.ports[h])
            ports := s.ports.set h
              (decided s.ports[h] words .accepted (BitVec.ofNat 32 (s.hostCounts[h] + 1))) }
        ∧ ∀ x : StrideId,
          t.strides[x] = { s.strides[x] with count := s.strides[x].count + (namings d).count x }

/-- CONTRIBUTE accepted into ABSORBING: the host joins posted and arrived as ABSORBED and nothing is queued or bound; the
last absorbed arrival closes the round, its outcome FAULTED kept, and hands it on. -/
def Obligations.ContributeIsAbsorbedAfterAFault : Prop :=
  ∀ (s : State) (h : HostId) (words : List Word) (r : Round),
    let f := decodeContribute words
    let cell := s.cells[f.cell]
    let absorbed : Round :=
      { r with
        posted := r.posted ||| 1#4 <<< h.val
        arrived := r.arrived ||| 1#4 <<< h.val
        statuses := r.statuses.set h (some .absorbed)
        contributionNotices := r.contributionNotices ||| 1#4 <<< h.val }
    let reserved : State :=
      { s with
        queues := s.queues.set h
          (withLine { s.queues[h] with reservations := s.queues[h].reservations + 1 } s.ports[h]) }
    let ports := s.ports.set h (decided s.ports[h] words .accepted (BitVec.ofNat 32 (s.hostCounts[h] % 32)))
    handedOver s h 2 words → cell.round = some r → r.phase = .absorbing →
    firstRefusal (contributeChecks s h words) = none →
      (absorbed.arrived ≠ r.participants →
          exec (.contribute h) s =
            .next
              (State.settle { reserved with
                cells := s.cells.set f.cell { number := cell.number, round := some absorbed }, ports := ports }))
        ∧ (absorbed.arrived = r.participants → r.outcome = some .faulted →
          ∃ u : State, exec (.contribute h) s = .next (State.settle { u with ports := ports })
            ∧ handedOn reserved u f.cell (closedEarly absorbed))

/-- CONTRIBUTE is refused with the code of its first failing check in the order of R28 and then changes nothing else; it
is accepted when all pass. -/
def Obligations.ContributeIsCheckedInOrder : Prop :=
  ∀ (s : State) (h : HostId) (words : List Word),
    let cell := s.cells[commandCell words]
    handedOver s h 2 words →
      (∀ code, firstRefusal (contributeChecks s h words) = some code →
          exec (.contribute h) s = .next (State.settle (decisionOnly s h words code (cell.number.setWidth 32))))
        ∧ (firstRefusal (contributeChecks s h words) = none →
          ∃ (t : State) (value : Word), exec (.contribute h) s = .next t.settle
            ∧ t.ports[h].framing = .delivering words (.decided .accepted value))

/-- WAIT: the first failing check of R31 refuses it; else it joins the notify list, or on a HELD cell is answered at once
with a WAIT_END at the tail, the latch gaining its kinds: FAULTED bit 0, EXPIRED 1, ABORTED 2, LOST 3, WRITE_FAILED 4, and
nothing for COMPLETE, WRITTEN and NOT_WRITTEN (R32, R160). -/
def Obligations.WaitReservesOrIsNoticedAtOnce : Prop :=
  ∀ (s : State) (h : HostId) (words : List Word),
    let c := commandCell words
    let cell := s.cells[c]
    let q := s.queues[h]
    let accepted (s' : State) : State :=
      { s' with ports := s.ports.set h (decided s.ports[h] words .accepted (cell.number.setWidth 32)) }
    handedOver s h 3 words →
      (∀ code, firstRefusal (waitChecks s h words) = some code →
          exec (.wait h) s = .next (State.settle (decisionOnly s h words code (cell.number.setWidth 32))))
        ∧ (firstRefusal (waitChecks s h words) = none → ∀ r, cell.round = some r →
          (r.phase ≠ .held →
              exec (.wait h) s =
                .next
                  (State.settle (accepted
                    { s with
                      cells := s.cells.set c
                        { number := cell.number, round := some { r with waitNotices := r.waitNotices ||| 1#4 <<< h.val } }
                      queues := s.queues.set h (withLine { q with reservations := q.reservations + 1 } s.ports[h]) })))
            ∧ (r.phase = .held →
              exec (.wait h) s =
                .next
                  (State.settle (accepted
                    { s with
                      queues := s.queues.set h
                        (withLine
                          { q with
                            entries := q.entries ++
                              noticesOf c cell.number { r with contributionNotices := 0, waitNotices := 1#4 <<< h.val } h
                            latch := q.latch ||| kindsGained r.outcome r.publication }
                          s.ports[h]) }))))

/-- ABORT: the first failing check of R55 refuses it. Accepted in COLLECTING with a walk in flight, it removes the cell's
entries, drops the pending hosts but the in-flight one, sends a cancel and drains; with no walk in flight the round closes
and is handed on; in ABSORBING it closes with FAULTED kept. FINAL sets final (R48, R56). -/
def Obligations.AbortEndsTheRoundEarly : Prop :=
  ∀ (s : State) (h : HostId) (words : List Word),
    let c := commandCell words
    let cell := s.cells[c]
    let final := (words.getD 0 0).getLsbD 24
    handedOver s h 4 words →
      (∀ code, firstRefusal (abortChecks s h words) = some code →
          exec (.abort h) s = .next (State.settle (decisionOnly s h words code (cell.number.setWidth 32))))
        ∧ (firstRefusal (abortChecks s h words) = none → ∀ r, cell.round = some r →
          let accepted := s.ports.set h (decided s.ports[h] words .accepted (cell.number.setWidth 32))
          let removed (m : State) : Prop :=
            entriesLeft (fun e => decide (e.cell = c)) s m
              ∧ m = { s with contributions := m.contributions, hostCounts := m.hostCounts, strides := m.strides }
          (r.phase = .collecting → ∀ w, r.walkInFlight = some w →
              ∃ m r', removed m
                ∧ pendingSettled { r with final := r.final || final, outcome := some .aborted, deadline := 0 } r'
                  r.inFlightHost .dropped
                ∧ exec (.abort h) s =
                  .next
                    (State.settle { m with
                      cells := s.cells.set c { number := cell.number, round := some { r' with phase := .draining } }
                      cancels := s.cancels ++ [{ unit := w, cell := c, round := cell.number }]
                      ports := accepted }))
            ∧ (r.phase = .collecting → r.walkInFlight = none →
              ∃ m r' u, removed m
                ∧ pendingSettled { r with final := r.final || final, outcome := some .aborted, deadline := 0 } r'
                  r.inFlightHost .dropped
                ∧ handedOn m u c (closedEarly r')
                ∧ exec (.abort h) s = .next (State.settle { u with ports := accepted }))
            ∧ (r.phase = .absorbing → r.outcome = some .faulted →
              ∃ u, handedOn s u c (closedEarly { r with final := r.final || final })
                ∧ exec (.abort h) s = .next (State.settle { u with ports := accepted })))

/-- RELEASE: the first failing check of R33 refuses it; else the HELD cell goes FREE with its round number kept, which is
the status value in both cases. -/
def Obligations.ReleaseFreesAHeldCell : Prop :=
  ∀ (s : State) (h : HostId) (words : List Word),
    let c := commandCell words
    let cell := s.cells[c]
    handedOver s h 5 words →
      (∀ code, firstRefusal (releaseChecks s h words) = some code →
          exec (.release h) s = .next (State.settle (decisionOnly s h words code (cell.number.setWidth 32))))
        ∧ (firstRefusal (releaseChecks s h words) = none →
          exec (.release h) s =
            .next
              (State.settle { decisionOnly s h words .accepted (cell.number.setWidth 32) with
                cells := s.cells.set c { number := cell.number, round := none } }))

/-- QUERY: NO_CREDIT when the queue has no free place; else a REPORT of the cell as it stands is entered at the tail, no
reservation and no latch kind is left by it, and the status value is the number of entries then held. -/
def Obligations.QueryEntersAReport : Prop :=
  ∀ (s : State) (h : HostId) (words : List Word),
    let c := commandCell words
    let q := s.queues[h]
    handedOver s h 6 words →
      (q.entries.length + q.reservations ≥ 32 →
          exec (.query h) s = .next (State.settle (decisionOnly s h words .noCredit (s.cells[c].number.setWidth 32))))
        ∧ (q.entries.length + q.reservations < 32 →
          exec (.query h) s =
            .next
              (State.settle { decisionOnly s h words .accepted (BitVec.ofNat 32 (q.entries.length + 1)) with
                queues := s.queues.set h
                  (withLine { q with entries := q.entries ++ [.report { cell := c, record := s.cells[c] }] }
                    s.ports[h]) }))

/-- SET_STRIDE and READ_STRIDE: SET_STRIDE is refused outside the 24-bit range, then while the entry is referenced, and
otherwise writes value and last writer; its status value tells what stood before, or the count. READ_STRIDE changes no
entry. -/
def Obligations.StrideCommandsWriteAndReadTheEntry : Prop :=
  ∀ (s : State) (h : HostId) (words : List Word),
    let e : StrideId := commandEntry words
    let entry := s.strides[e]
    let written := (words.getD 1 0).toInt
    let inRange24 := -8388608 ≤ written ∧ written ≤ 8388607
    let writer : Word → Prop := fun value =>
      value.extractLsb' 24 3 = (match entry.writer with | none => 0#3 | some g => 4#3 + BitVec.ofNat 3 g.val)
        ∧ value.extractLsb' 27 5 = 0#5
    (handedOver s h 7 words →
        ∃ value, writer value
          ∧ (¬inRange24 → value.extractLsb' 0 24 = BitVec.ofInt 24 entry.value
            ∧ exec (.setStride h) s = .next (State.settle (decisionOnly s h words .badField value)))
          ∧ (inRange24 → 1 ≤ entry.count → value.extractLsb' 0 24 = BitVec.ofNat 24 entry.count
            ∧ exec (.setStride h) s = .next (State.settle (decisionOnly s h words .strideBusy value)))
          ∧ (inRange24 → entry.count = 0 → value.extractLsb' 0 24 = BitVec.ofInt 24 entry.value
            ∧ exec (.setStride h) s =
              .next
                (State.settle { decisionOnly s h words .accepted value with
                  strides := s.strides.set e { entry with value := written, writer := some h } })))
      ∧ (handedOver s h 8 words →
        ∃ value : Word,
          value.extractLsb' 0 24 = BitVec.ofInt 24 entry.value
            ∧ value.extractLsb' 24 7 = BitVec.ofNat 7 entry.count ∧ value.getLsbD 31 = false
            ∧ exec (.readStride h) s = .next (State.settle (decisionOnly s h words .accepted value)))

/-! ### Events of a cell -/

/-- WALK_END_DONE in COLLECTING that leaves a participant to arrive: the report's accumulator and tallies are
committed, its host joins arrived as WALKED, walk in flight is cleared, and the cell stays in COLLECTING. Of several
reports of one kind for a cell, which law L1 rules out, the first sent is taken: log 18. -/
def Obligations.DoneReportCommitsTheWalk : Prop :=
  ∀ (s : State) (c : CellId) (m : WalkReport) (rest : List WalkReport) (r : Round) (acc : Option Int) (t : Tallies),
    firstReport s c isDone m rest → m.kind = .done acc t → s.cells[c].round = some r → r.phase = .collecting →
    r.arrived ||| 1#4 <<< m.host.val ≠ r.participants →
      exec (.walkEndDone c) s =
        .next
          (State.settle { s with
            walkReports := rest
            cells := s.cells.set c
              { number := s.cells[c].number
                round := some
                  { r with
                    accumulator := acc, tallies := t
                    arrived := r.arrived ||| 1#4 <<< m.host.val
                    statuses := r.statuses.set m.host (some .walked)
                    walkInFlight := none, inFlightHost := none } } })

/-- WALK_END_DONE that makes arrived equal participants: the output stage runs on the committed values, the outcome is
COMPLETE or FAULTED with the kind alone, result and flags are set, the timer stops, and the round is handed on (R37,
R38). Of several reports of one kind for a cell, which law L1 rules out, the first sent is taken: log 18. -/
def Obligations.LastDoneCompletesTheRound : Prop :=
  ∀ (s : State) (c : CellId) (m : WalkReport) (rest : List WalkReport) (r : Round) (acc : Option Int) (t : Tallies),
    firstReport s c isDone m rest → m.kind = .done acc t → s.cells[c].round = some r → r.phase = .collecting →
    r.arrived ||| 1#4 <<< m.host.val = r.participants →
      let taken : State := { s with walkReports := rest }
      let ended : Round :=
        { r with
          deadline := 0, accumulator := acc
          arrived := r.arrived ||| 1#4 <<< m.host.val
          statuses := r.statuses.set m.host (some .walked)
          walkInFlight := none, inFlightHost := none }
      (∀ value t', outputStage r.settings acc t = .result value t' →
          ∃ u : State, exec (.walkEndDone c) s = .next u.settle
            ∧ handedOn taken u c
              { ended with
                tallies := t', outcome := some .complete
                result := some
                  { value := value, flags := { earlyFlags t' with empty := decide (t'.combined = 0) } } })
        ∧ ∀ kind, outputStage r.settings acc t = .raised kind →
          ∃ u : State, exec (.walkEndDone c) s = .next u.settle
            ∧ handedOn taken u c
              { ended with
                tallies := t, outcome := some .faulted, fault := some { kind := kind, element := none }
                result := some { value := none, flags := earlyFlags t } }

/-- WALK_END_FAULT in COLLECTING: the outcome is FAULTED with the report's fault record, its host is FAULTING, the
pending hosts are ABSORBED, the cell's entries leave the queue, the committed values stay; the cell enters ABSORBING,
or closes when every participant has arrived (R50, R51). Of several reports of one kind for a cell, which law L1 rules
out, the first sent is taken: log 18. -/
def Obligations.FaultReportFaultsTheRound : Prop :=
  ∀ (s : State) (c : CellId) (m : WalkReport) (rest : List WalkReport) (r : Round) (kind : ExceptionKind) (index : Nat)
    (address : Addr),
    firstReport s c isFault m rest → m.kind = .fault kind index address → s.cells[c].round = some r →
    r.phase = .collecting →
      let faulting : Round :=
        { r with
          outcome := some .faulted
          fault := some { kind := kind, element := some { host := m.host, index := index, address := address } }
          arrived := r.arrived ||| 1#4 <<< m.host.val
          statuses := r.statuses.set m.host (some .faulting)
          walkInFlight := none, inFlightHost := none }
      ∃ removed r', pendingSettled faulting r' none .absorbed
        ∧ entriesLeft (fun e => decide (e.cell = c)) s removed
        ∧ removed =
          { s with
            walkReports := rest
            contributions := removed.contributions, hostCounts := removed.hostCounts, strides := removed.strides }
        ∧ (r'.arrived ≠ r.participants →
          exec (.walkEndFault c) s =
            .next
              (State.settle { removed with
                cells := s.cells.set c
                  { number := s.cells[c].number, round := some { r' with phase := .absorbing } } }))
        ∧ (r'.arrived = r.participants →
          ∃ u : State, exec (.walkEndFault c) s = .next u.settle ∧ handedOn removed u c (closedEarly r'))

/-- WALK_END_CUT in COLLECTING clears walk in flight and leaves the host pending (R65). In DRAINING the report of any
kind ends the drain: its host joins arrived with the status of the kind, its contents are set aside, the round closes
and is handed on (R59). Of several reports of one kind for a cell, which law L1 rules out, the first sent is taken:
log 18. -/
def Obligations.CutIsSetAsideAndAnyReportEndsTheDrain : Prop :=
  ∀ (s : State) (c : CellId) (m : WalkReport) (rest : List WalkReport) (r : Round), s.cells[c].round = some r →
    let number := s.cells[c].number
    let taken : State := { s with walkReports := rest }
    let drained (status : ContributionStatus) : Round :=
      { r with
        arrived := r.arrived ||| 1#4 <<< m.host.val
        statuses := r.statuses.set m.host (some status)
        walkInFlight := none, inFlightHost := none }
    (firstReport s c isCut m rest → r.phase = .collecting →
        exec (.walkEndCut c) s =
          .next
            (State.settle { taken with
              cells := s.cells.set c
                { number := number, round := some { r with walkInFlight := none, inFlightHost := none } } }))
      ∧ (r.phase = .draining → r.outcome ≠ some .complete →
        (firstReport s c isDone m rest →
            ∃ u : State, exec (.walkEndDone c) s = .next u.settle ∧ handedOn taken u c (closedEarly (drained .walked)))
          ∧ (firstReport s c isFault m rest →
            ∃ u : State, exec (.walkEndFault c) s = .next u.settle ∧ handedOn taken u c (closedEarly (drained .faulting)))
          ∧ (firstReport s c isCut m rest →
            ∃ u : State, exec (.walkEndCut c) s = .next u.settle ∧ handedOn taken u c (closedEarly (drained .cut))))

/-- PUBLICATION_DONE: the status is recorded, the notices are posted in their order against the reservations, the
latch of each host noticed gaining the outcome's bit and WRITE_FAILED's, and nothing for COMPLETE, WRITTEN and
NOT_WRITTEN (R160), and the cell goes FREE, repeats or enters HELD (R39 to R44). Of several reports for a cell, which
no run from reset has, the first sent is taken: log 18. -/
def Obligations.PublicationDonePostsNoticesAndDisposes : Prop :=
  ∀ (s : State) (c : CellId) (status : PublicationStatus) (front back : List PublicationReport) (r : Round),
    s.publicationReports = front ++ { cell := c, status := status } :: back → (∀ x ∈ front, x.cell ≠ c) →
    s.cells[c].round = some r → r.phase = .publishing → LineLaw s →
      let ended : Round := { r with publication := some status }
      ∃ t : State, exec (.publicationDone c) s = .next t.settle
        ∧ noticesPosted s t c s.cells[c].number ended
        ∧ t =
          { s with
            publicationReports := front ++ back
            queues := t.queues
            cells := s.cells.set c (disposed s.cells[c].number ended) }

/-- DEADLINE_TIMER_TICK and DEADLINE_EXPIRY: a stopped timer is unchanged by its tick, a running one decreases, and the
tick that brings it to 0 is the expiry: EXPIRED and draining while a walk is in flight, closed with EXPIRED when none
is, closed with FAULTED kept in ABSORBING (R24, R48, R54). That the two rows are one event is the model's reading, log
5. -/
def Obligations.DeadlineTickCountsDownAndExpires : Prop :=
  ∀ (s : State) (c : CellId), 1 ≤ s.deadlineTicks[c] →
    let cell := s.cells[c]
    let ticks := s.deadlineTicks.set c (s.deadlineTicks[c] - 1)
    let running (r : Round) : Prop := r.timeout ≠ 0 ∧ (r.phase = .collecting ∨ r.phase = .absorbing)
    ((∀ r, cell.round = some r → ¬running r) →
        exec (.deadlineTimerTick c) s = .next (State.settle { s with deadlineTicks := ticks }))
      ∧ ∀ r, cell.round = some r → running r →
        (2 ≤ r.deadline →
            exec (.deadlineTimerTick c) s =
              .next
                (State.settle { s with
                  deadlineTicks := ticks
                  cells := s.cells.set c
                    { number := cell.number, round := some { r with deadline := r.deadline - 1 } } }))
          ∧ (r.deadline ≤ 1 → exec (.deadlineTimerTick c) s = exec (.deadlineExpiry c) s)
          ∧ (r.deadline ≤ 1 → r.phase = .collecting →
            ∃ m r', entriesLeft (fun e => decide (e.cell = c)) s m
              ∧ m =
                { s with
                  deadlineTicks := ticks
                  contributions := m.contributions, hostCounts := m.hostCounts, strides := m.strides }
              ∧ pendingSettled { r with outcome := some .expired, deadline := 0 } r' r.inFlightHost .dropped
              ∧ (∀ w, r.walkInFlight = some w →
                exec (.deadlineExpiry c) s =
                  .next
                    (State.settle { m with
                      cells := s.cells.set c { number := cell.number, round := some { r' with phase := .draining } }
                      cancels := s.cancels ++ [{ unit := w, cell := c, round := cell.number }] }))
              ∧ (r.walkInFlight = none →
                ∃ u : State, exec (.deadlineExpiry c) s = .next u.settle ∧ handedOn m u c (closedEarly r')))
          ∧ (r.deadline ≤ 1 → r.phase = .absorbing → r.outcome = some .faulted →
            ∃ u : State, exec (.deadlineExpiry c) s = .next u.settle
              ∧ handedOn { s with deadlineTicks := ticks } u c (closedEarly r))

/-- LOSS_NOTICE: it is acknowledged; the memberships of the lost host go on every cell; a HELD cell it opened goes
FREE, an active one gets final (R63). A cell in COLLECTING or ABSORBING that it opened, or that waits on it, ends its
round early, with LOST in COLLECTING (R64): stated whole when at most one cell does, and for every cell's own record
however many do, in whatever order, which is free (log 14). That the acknowledgement is a message on its way to the
port is the model's reading, log 7. -/
def Obligations.LossNoticeWithdrawsAndEndsRounds : Prop :=
  ∀ (s : State) (h : HostId), 1 ≤ s.ports[h].lossNotices →
    let acknowledged :=
      s.ports.set h
        { s.ports[h] with
          lossNotices := s.ports[h].lossNotices - 1, acksReturned := s.ports[h].acksReturned + 1 }
    let ends (cell : Cell) : Prop :=
      ∃ r, cell.round = some r ∧ (r.phase = .collecting ∨ r.phase = .absorbing)
        ∧ (r.opener = h ∨ member r.participants h = true ∧ member r.arrived h = false)
    let withdrawn (r : Round) : Round :=
      { r with
        contributionNotices := r.contributionNotices &&& ~~~(1#4 <<< h.val)
        waitNotices := r.waitNotices &&& ~~~(1#4 <<< h.val)
        final := r.final || (decide (r.opener = h) && decide (r.phase ≠ .held)) }
    let lost (before after : Cell) : Prop :=
      after.number = before.number
        ∧ (before.round = none → after.round = none)
        ∧ ∀ r, before.round = some r →
          after.round = if r.phase = .held ∧ r.opener = h then none else some (withdrawn r)
    let noticed (m : State) : Prop :=
      (∀ c : CellId, lost s.cells[c] m.cells[c])
        ∧ m = { s with cells := m.cells, ports := acknowledged, lossCount := s.lossCount + 1 }
    let removed (c : CellId) (m m' : State) : Prop :=
      entriesLeft (fun e => decide (e.cell = c)) m m'
        ∧ m' = { m with contributions := m'.contributions, hostCounts := m'.hostCounts, strides := m'.strides }
    let settled (r r' : Round) : Prop :=
      pendingSettled { withdrawn r with outcome := some .lost, deadline := 0 } r' r.inFlightHost .dropped
    ((∀ c : CellId, ¬ends s.cells[c]) → ∃ t, noticed t ∧ exec (.lossNotice h) s = .next t.settle)
      ∧ (∀ (c : CellId) (r : Round), s.cells[c].round = some r → ends s.cells[c] →
        (∀ d : CellId, d ≠ c → ¬ends s.cells[d]) →
          (r.phase = .collecting →
              ∃ m m' r', noticed m ∧ removed c m m' ∧ settled r r'
                ∧ (∀ w, r.walkInFlight = some w →
                  exec (.lossNotice h) s =
                    .next
                      (State.settle { m' with
                        cells := m.cells.set c
                          { number := s.cells[c].number, round := some { r' with phase := .draining } }
                        cancels := s.cancels ++ [{ unit := w, cell := c, round := s.cells[c].number }] }))
                ∧ (r.walkInFlight = none →
                  ∃ u, handedOn m' u c (closedEarly r') ∧ exec (.lossNotice h) s = .next u.settle))
            ∧ (r.phase = .absorbing → r.outcome = some .faulted →
              ∃ m u, noticed m ∧ handedOn m u c (closedEarly (withdrawn r)) ∧ exec (.lossNotice h) s = .next u.settle))
      ∧ ∃ t : State, exec (.lossNotice h) s = .next t.settle
        ∧ ∀ c : CellId,
          (¬ends s.cells[c] → lost s.cells[c] t.cells[c])
            ∧ ∀ r, s.cells[c].round = some r → ends s.cells[c] →
              (r.phase = .collecting → ∀ w, r.walkInFlight = some w →
                  ∃ r', settled r r'
                    ∧ t.cells[c] = { number := s.cells[c].number, round := some { r' with phase := .draining } }
                    ∧ { unit := w, cell := c, round := s.cells[c].number } ∈ t.cancels)
                ∧ (r.phase = .collecting → r.walkInFlight = none →
                  ∃ r', settled r r' ∧ t.cells[c] = cellHandedOn s.cells[c].number (closedEarly r'))
                ∧ (r.phase = .absorbing → r.outcome = some .faulted →
                  t.cells[c] = cellHandedOn s.cells[c].number (closedEarly (withdrawn r)))

/-! ### The Pending Queue, the Dispatcher and the walk units -/

/-- REMOVAL takes every entry of the host out of the queue, its count to 0 and the references of those entries
released, and acknowledges the notice; the cells learn nothing (R98). That the acknowledgement is a message on its way
to the port is the model's reading, log 7. -/
def Obligations.RemovalTakesOutTheHostsEntries : Prop :=
  ∀ (s : State) (h : HostId), 1 ≤ s.ports[h].removals →
    s.hostCounts[h] = s.contributions.countP (fun e => decide (e.host = h)) →
      ∃ t : State, exec (.removal h) s = .next t.settle
        ∧ entriesLeft (fun e => decide (e.host = h)) s t ∧ t.hostCounts[h] = 0
        ∧ t =
          { s with
            contributions := t.contributions, hostCounts := t.hostCounts, strides := t.strides
            ports := s.ports.set h
              { s.ports[h] with removals := s.ports[h].removals - 1, acksReturned := s.ports[h].acksReturned + 1 } }

/-- CANCEL and CUT: a unit WALKING the contribution of the cancel's cell and round, or of the cut's host, sends CUT
and gives the contribution up; every other unit ignores them. A cut is acknowledged (R112, R113). That a grant of the
unit keeps the mark of its withdrawn offer, and that the unit's working values stand absent and 0 after the walk, are
the model's reading, logs 13 and 16. That cancels are taken in any order, and that a cut's acknowledgement is a
message on its way to the port, are too, logs 18 and 7. -/
def Obligations.CancelAndCutEndTheWalkOrAreIgnored : Prop :=
  ∀ (s : State) (w : UnitId),
    let framed (s' t : State) : Prop :=
      t =
        { s' with
          units := t.units, strides := t.strides, holdOwner := t.holdOwner, grant := t.grant
          walkReports := t.walkReports }
    (∀ (c : CellId) (round : RoundNumber),
        let message : CancelMessage := { unit := w, cell := c, round := round }
        let taken : State := { s with cancels := s.cancels.erase message }
        message ∈ s.cancels →
          (∀ walk, s.units[w].mode = .walking walk → walk.contribution.cell = c → walk.contribution.round = round →
              ∃ t : State, exec (.cancel w c round) s = .next t.settle ∧ walkEnded taken t w walk s.units[w].window .cut
                ∧ framed taken t)
            ∧ ((∀ walk, s.units[w].mode = .walking walk →
                ¬(walk.contribution.cell = c ∧ walk.contribution.round = round)) →
              exec (.cancel w c round) s = .next taken.settle))
      ∧ ∀ h : HostId,
        let p := s.ports[h]
        let taken : State :=
          { s with
            ports := s.ports.set h
              { p with cuts := p.cuts.set w (p.cuts[w] - 1), acksReturned := p.acksReturned + 1 } }
        1 ≤ p.cuts[w] →
          (∀ walk, s.units[w].mode = .walking walk → walk.contribution.host = h →
              ∃ t : State, exec (.cut w h) s = .next t.settle ∧ walkEnded taken t w walk s.units[w].window .cut ∧ framed taken t)
            ∧ ((∀ walk, s.units[w].mode = .walking walk → walk.contribution.host ≠ h) →
              exec (.cut w h) s = .next taken.settle)

/-- A dispatch, made in the event that makes it possible and by DISPATCH: the first entry whose cell has no walk in
flight is paired with the lowest-numbered IDLE unit. The entry leaves the queue, the unit holds it with the cell's
settings and committed values, a fresh generator and an empty window, and the cell's walk in flight names the unit (R99,
R100). With nothing to dispatch and no grant due nothing changes. That a due grant is made before a dispatch, and that
DISPATCH then finds nothing left, are the model's reading, log 11. -/
def Obligations.DispatchPairsTheFirstEligibleEntry : Prop :=
  (∀ s : State, exec .dispatch s = .next s.settle)
    ∧ (∀ s : State, DispatchLaw s → GrantLaw s → s.settle = s)
    ∧ ∀ (s : State) (front back : List Contribution) (e : Contribution) (r : Round) (w : UnitId),
      s.contributions = front ++ e :: back →
      (∀ x ∈ front, ∀ q, s.cells[x.cell].round = some q → q.walkInFlight ≠ none) →
      s.cells[e.cell].round = some r → r.walkInFlight = none →
      s.units[w].mode = .idle → (∀ v : UnitId, v < w → s.units[v].mode ≠ .idle) → GrantLaw s →
        s.settle =
          State.settle
            { s with
              contributions := front ++ back
              hostCounts := s.hostCounts.set e.host (s.hostCounts[e.host] - 1)
              cells := s.cells.set e.cell
                { number := s.cells[e.cell].number
                  round := some { r with walkInFlight := some w, inFlightHost := some e.host } }
              units := s.units.set w
                { mode := .walking { contribution := e, settings := r.settings.combine }
                  generator := some
                    { address := e.descriptor.base, inner := 0, middle := 0, outer := 0, exhausted := false }
                  window := Vector.replicate 4 none
                  working := r.accumulator
                  tallies := r.tallies } }

/-- READ_GRANT_TAKEN: the generator's element enters the lowest-numbered empty place and its read leaves on that place's
slot with the next sequence number, the epoch and a timer of 200 ticks; rotation and HOLD owner follow. A grant whose
offer was withdrawn is declined, issues nothing, and the arbiter grants afresh (R103, R118, R125, R126). The withdrawn
mark, the request field and the readiness of the memory side are the model's, logs 13, 15 and 12. -/
def Obligations.ReadGrantIssuesTheNextElement : Prop :=
  ∀ (s : State) (w : UnitId),
    (s.grant = some { requester := .walkUnit w, withdrawn := true } →
        exec (.readGrantTaken w) s = .next (State.settle { s with grant := none }))
      ∧ ∀ (walk : Walk) (g : Generator) (k : PlaceId),
        s.grant = some { requester := .walkUnit w, withdrawn := false } → s.units[w].mode = .walking walk →
        s.units[w].generator = some g → g.exhausted = false → s.units[w].window[k] = none →
        (∀ j : PlaceId, j < k → s.units[w].window[j] ≠ none) →
          let d := walk.contribution.descriptor
          let slot := s.slots[placeSlot w k]
          ∃ request : MemRequest,
            exec (.readGrantTaken w) s =
                .next
                  (State.settle { s with
                    units := s.units.set w
                      { s.units[w] with
                        generator := some (advanceGenerator s.strides d g)
                        window := s.units[w].window.set k
                          (some
                            { index := (g.outer * d.middle + g.middle) * d.inner + g.inner, address := g.address
                              size := elementSize d.format, answer := none }) }
                    slots := s.slots.set (placeSlot w k)
                      { outstanding := true, sequence := slot.sequence + 1, timer := 200 }
                    request := some request
                    memoryReady := false
                    grant := none
                    rotation := w
                    holdOwner := if walk.contribution.hold then some w else none })
              ∧ request.address = g.address &&& 0xFFFFFFF8
              ∧ request.write = false ∧ request.data = none
              ∧ (∀ j : Nat, j < 8 →
                (request.byteEnables.getLsbD j = true ↔
                  g.address.toNat % 8 ≤ j ∧ j < g.address.toNat % 8 + elementSize d.format))
              ∧ (request.tag.extractLsb' 0 5).toNat = 4 * w.val + k.val
              ∧ request.tag.extractLsb' 5 4 = slot.sequence + 1
              ∧ request.tag.getLsbD 9 = s.epoch

/-- A grant, made by ARBITER_GRANT as the memory side becomes ready, and by any event that makes an offer or declines a
grant while it is ready: the Publisher first, else a unit of the highest priority offered: the HOLD owner if it offers
there, else the first such unit after the rotation pointer. None is made while the memory side is not ready or a grant
waits to be taken (R123, R124). That ARBITER_GRANT is the memory side's becoming ready is the model's reading, log 12;
the grant's withdrawn mark is the model's, log 13. -/
def Obligations.ArbiterGrantsByRank : Prop :=
  (∀ s : State, exec .arbiterGrant s = .next (State.settle { s with memoryReady := true }))
    ∧ (∀ s : State, s.memoryReady = false ∨ s.grant ≠ none → s.settle.grant = s.grant)
    ∧ ∀ s : State, s.memoryReady = true → s.grant = none →
      let granted (requester : Requester) : State :=
        { s with grant := some { requester := requester, withdrawn := false } }
      (offersWrite s → s.settle = (granted .publisher).settle)
        ∧ (¬offersWrite s → ∀ (v : UnitId) (p : Nat), offersRead s.units[v] p →
          ∃ (w : UnitId) (top : Nat),
            s.settle = (granted (.walkUnit w)).settle
              ∧ offersRead s.units[w] top
              ∧ (∀ (u : UnitId) (q : Nat), offersRead s.units[u] q → q ≤ top)
              ∧ (∀ u : UnitId, s.holdOwner = some u → offersRead s.units[u] top → w = u)
              ∧ ((∀ u : UnitId, s.holdOwner = some u → ¬offersRead s.units[u] top) →
                ∀ u : UnitId, offersRead s.units[u] top →
                  (w.val + 3 - s.rotation.val) % 4 ≤ (u.val + 3 - s.rotation.val) % 4))

/-- WRITE_GRANT_TAKEN and PUBLISHER_ANSWER: each half of the record is written on slot 16 at its address; the second
is offered only after an OK for the first; any other answer reports WRITE_FAILED and the OK for the second WRITTEN,
and the Publisher then takes the head of its queue (R129 to R131). The request field and the readiness of the memory
side, which WRITE_GRANT_TAKEN writes, are the model's, logs 15 and 12. That a queued cell with no destination composes
no record is the model's reading, log 17. -/
def Obligations.PublisherWritesInTwoSteps : Prop :=
  ∀ (s : State) (p : PublisherRecord), s.publisher = some p →
    let slot := s.slots[publisherSlot]
    let answered : State := { s with answers := s.answers.set publisherSlot none }
    let reported (status : PublicationStatus) (t : State) : Prop :=
      exec .publisherAnswer s = .next t.settle
        ∧ t =
          { answered with
            publisher := t.publisher, publicationQueue := t.publicationQueue
            publicationReports := s.publicationReports ++ [{ cell := p.cell, status := status }] }
        ∧ (s.publicationQueue = [] → t.publisher = none ∧ t.publicationQueue = [])
        ∧ ∀ c rest, s.publicationQueue = c :: rest →
          t.publisher = composeRecord c s.cells[c] ∧ t.publicationQueue = rest
    (s.grant = some { requester := .publisher, withdrawn := false } → p.waiting = false →
        exec .writeGrantTaken s =
          .next
            (State.settle { s with
              grant := none
              memoryReady := false
              publisher := some { p with waiting := true }
              slots := s.slots.set publisherSlot
                { outstanding := true, sequence := slot.sequence + 1, timer := 200 }
              request := some
                { address := if p.step = .firstWrite then p.destination else p.destination + 8
                  byteEnables := 0xFF, write := true
                  data := some (if p.step = .firstWrite then p.firstHalf else p.secondHalf)
                  tag := makeTag publisherSlot (slot.sequence + 1) s.epoch } }))
      ∧ ∀ a, s.answers[publisherSlot] = some a → p.waiting = true →
        (∀ data, a = .ok data → p.step = .firstWrite →
            exec .publisherAnswer s =
              .next (State.settle { answered with publisher := some { p with step := .secondWrite, waiting := false } }))
          ∧ (∀ data, a = .ok data → p.step = .secondWrite → ∃ t, reported .written t)
          ∧ (a = .error ∨ a = .timeout → ∃ t, reported .writeFailed t)

/-- MEMORY_RESPONSE: a response matches when its slot is in 0..16 and OUTSTANDING with that sequence number, and its
epoch is the current one; it then frees the slot, stops its timer and hands the answer over. Any other response is
discarded and changes nothing (R119). That the timer of a freed slot stands at 0 is the model's reading, log 16. -/
def Obligations.ResponseMatchesOrIsDiscarded : Prop :=
  ∀ (s : State) (tag : BitVec 10) (answer : MemAnswer),
    (∀ k : SlotId, (tag.extractLsb' 0 5).toNat = k.val → s.slots[k].outstanding = true →
        s.slots[k].sequence = tag.extractLsb' 5 4 → tag.getLsbD 9 = s.epoch →
          exec (.memoryResponse tag answer) s =
            .next
              (State.settle { s with
                slots := s.slots.set k { s.slots[k] with outstanding := false, timer := 0 }
                answers := s.answers.set k
                  (some (match answer with | .ok data => .ok data | .error => .error)) }))
      ∧ ((∀ k : SlotId, (tag.extractLsb' 0 5).toNat = k.val →
          ¬(s.slots[k].outstanding = true ∧ s.slots[k].sequence = tag.extractLsb' 5 4 ∧ tag.getLsbD 9 = s.epoch)) →
        exec (.memoryResponse tag answer) s = .next s.settle)

/-- RESPONSE_TIMER_TICK and RESPONSE_TIMEOUT: a stopped timer is unchanged, a running one decreases, and the tick that
brings it to 0 answers the request TIMEOUT and frees the slot, the sequence number kept (R120). That the tick and the
timeout are one event with two rows is the model's reading, log 5. That ticks issued wait in a count for each timer is
so as well, log 5. -/
def Obligations.ResponseTimerCountsDownAndTimesOut : Prop :=
  ∀ (s : State) (k : SlotId), 1 ≤ s.responseTicks[k] →
    let ticked : State := { s with responseTicks := s.responseTicks.set k (s.responseTicks[k] - 1) }
    (s.slots[k].outstanding = false → exec (.responseTimerTick k) s = .next ticked.settle)
      ∧ (s.slots[k].outstanding = true → 2 ≤ s.slots[k].timer →
        exec (.responseTimerTick k) s =
          .next (State.settle { ticked with slots := s.slots.set k { s.slots[k] with timer := s.slots[k].timer - 1 } }))
      ∧ (s.slots[k].outstanding = true → s.slots[k].timer ≤ 1 → ∀ i : Instr,
        i = .responseTimerTick k ∨ i = .responseTimeout k →
          exec i s =
            .next
              (State.settle { ticked with
                slots := s.slots.set k { s.slots[k] with outstanding := false, timer := 0 }
                answers := s.answers.set k (some .timeout) }))

/-- WALK_UNIT_ANSWER: STOPPING discards the answer and the unit is IDLE with its last place (R111). In WALKING the
answered elements that head the walk order are treated, in that order, and leave the window, `ready` being their places
and `rest` the others in use (R105); one that raises makes the unit send FAULT with its index and address (R110); when
no place is left in use and the generator is exhausted it sends DONE (R109), else the walk goes on. That after FAULT or
DONE a grant of the unit keeps the mark of its withdrawn offer, and the unit's working values stand absent and 0, is the
model's reading, logs 13 and 16. -/
def Obligations.AnswersAreTreatedInWalkOrder : Prop :=
  ∀ (s : State) (w : UnitId) (k : PlaceId) (a : Answer) (place : Place),
    s.answers[placeSlot w k] = some a → s.units[w].window[k] = some place →
      let unit := s.units[w]
      let taken : State := { s with answers := s.answers.set (placeSlot w k) none }
      let framed (t : State) : Prop :=
        t =
          { taken with
            units := t.units, strides := t.strides, holdOwner := t.holdOwner, grant := t.grant
            walkReports := t.walkReports }
      (unit.mode = .stopping →
          exec (.walkUnitAnswer w k) s =
            .next
              (State.settle { taken with
                units := s.units.set w
                  { unit with
                    mode := if ∀ j : PlaceId, j ≠ k → unit.window[j] = none then .idle else .stopping
                    window := unit.window.set k none } }))
        ∧ ∀ walk (ready rest : List PlaceId), unit.mode = .walking walk →
          let answerAt (j : PlaceId) : Option Answer := if j = k then some a else unit.window[j].bind (·.answer)
          let indexAt (j : PlaceId) : Nat := (unit.window[j].map (·.index)).getD 0
          (∀ j : PlaceId, unit.window[j] ≠ none ↔ j ∈ ready ++ rest) →
          (ready ++ rest).Pairwise (fun i j => indexAt i < indexAt j) →
          (∀ j ∈ ready, answerAt j ≠ none) → (∀ j, rest.head? = some j → answerAt j = none) →
            let treated :=
              treatInOrder walk unit.working unit.tallies
                (ready.filterMap fun j => unit.window[j].bind fun p => (answerAt j).map fun x => (p, x))
            (∀ kind (p : Place), treated = .error (kind, p) →
                ∃ t : State, exec (.walkUnitAnswer w k) s = .next t.settle ∧ framed t
                  ∧ walkEnded taken t w walk (unit.window.set k none) (.fault kind p.index p.address))
              ∧ (∀ acc t', treated = .ok (acc, t') →
                (rest = [] → (∀ g, unit.generator = some g → g.exhausted = true) →
                    ∃ t : State, exec (.walkUnitAnswer w k) s = .next t.settle ∧ framed t
                      ∧ walkEnded taken t w walk (unit.window.set k none) (.done acc t'))
                  ∧ (¬(rest = [] ∧ ∀ g, unit.generator = some g → g.exhausted = true) →
                    ∃ window : Vector (Option Place) 4,
                      (∀ j : PlaceId,
                          window[j] =
                            if j ∈ ready then none
                            else if j = k then some { place with answer := some a } else unit.window[j])
                        ∧ exec (.walkUnitAnswer w k) s =
                          .next
                            (State.settle { taken with
                              units := s.units.set w
                                { unit with window := window, working := acc, tallies := t' } })))

/-! ### Timebase, device reset and supplies -/

/-- TICK returns the tick counter to 0 and issues one tick to each of the 64 deadline timers and 17 response timers
(R174), outside a device reset; that the row completes the microsecond at every value of the tick counter, standing
for the periods that are left, is the model's choice, log 4. DEVICE_RESET_RELEASE latches the straps, held to 20 to
100 periods, and the count begins at 0 (R175). That ticks issued wait in a count for each timer is the model's
reading, log 5. -/
def Obligations.TickAndReleaseOfTheTimebase : Prop :=
  ∀ s : State,
    (s.deviceReset = false →
        ∃ t : State, exec .tick s = .next t.settle
          ∧ t = { s with tickCounter := 0, deadlineTicks := t.deadlineTicks, responseTicks := t.responseTicks }
          ∧ (∀ c : CellId, t.deadlineTicks[c] = s.deadlineTicks[c] + 1)
          ∧ ∀ k : SlotId, t.responseTicks[k] = s.responseTicks[k] + 1)
      ∧ ∀ straps : BitVec 7, s.deviceReset = true →
        exec (.deviceResetRelease straps) s =
          .next (State.settle { s with deviceReset := false, periods := max 20 (min 100 straps.toNat), tickCounter := 0 })

/-- DEVICE_RESET returns every block to its reset state and inverts the epoch; SUPPLIES_COME_UP sets the epoch to 0. The
reset of every block when the supplies come up, and what lies outside the blocks and is kept, are the model's choices: the
fields of the supplies (logs 2, 3), the reset lines (log 9), the messages, ticks and grant removed and the periods kept
(log 10), the memory side's readiness kept (log 12), the loss count kept (log 14), the request path emptied and the bus
words kept (log 15), a unit's working values (log 16). -/
def Obligations.DeviceResetReturnsEveryBlock : Prop :=
  ∀ s : State,
    let blocks (t : State) : Prop :=
      (∀ c : CellId, t.cells[c] = { number := 0, round := none } ∧ t.deadlineTicks[c] = 0)
        ∧ (∀ h : HostId,
          t.ports[h] =
            { framing := .empty, ticket := 0, lastCode := .none, lastValue := 0, view := .command
              completionEnable := false, errorEnable := false, awaited := 0, lineHeld := s.ports[h].lineHeld
              deferredResets := 0, lossNotices := 0, removals := 0, cuts := Vector.replicate 4 0, acksReturned := 0 }
            ∧ t.queues[h] = { entries := [], reservations := 0, cursor := 0, latch := 0, line := false }
            ∧ t.hostCounts[h] = 0)
        ∧ (∀ e : StrideId, t.strides[e] = { value := 0, count := 0, writer := none })
        ∧ (∀ w : UnitId, t.units[w] = 
              { mode := .idle, generator := none, window := Vector.replicate 4 none, working := none
                tallies := { combined := 0, voids := 0, saturations := 0, wraps := 0, losses := 0 } })
        ∧ (∀ k : SlotId, t.slots[k] = { outstanding := false, sequence := 0, timer := 0 }
          ∧ t.answers[k] = none ∧ t.responseTicks[k] = 0)
        ∧ t.contributions = [] ∧ t.publicationQueue = [] ∧ t.publisher = none
        ∧ t.walkReports = [] ∧ t.publicationReports = [] ∧ t.cancels = []
        ∧ t.rotation = 3 ∧ t.holdOwner = none ∧ t.grant = none ∧ t.request = none ∧ t.tickCounter = 0
        ∧ t.memoryReady = s.memoryReady ∧ t.busData = s.busData ∧ t.lossCount = s.lossCount ∧ t.pending = s.pending
    (s.deviceReset = false →
        ∃ t : State, exec .deviceReset s = .next t.settle ∧ blocks t
          ∧ t.epoch = !s.epoch ∧ t.deviceReset = true ∧ t.periods = s.periods)
      ∧ ∃ t : State, exec .suppliesComeUp s = .next t.settle ∧ blocks t
        ∧ t.epoch = false ∧ t.deviceReset = s.deviceReset ∧ t.periods = Config.powerUpPeriods

/-! ### Laws that every step keeps -/

/-- The state after reset, with the model's choices of logs 2, 3, 9 and 12, meets every law. -/
def Obligations.ResetMeetsEveryLaw : Prop :=
  CreditLaw State.reset ∧ LineLaw State.reset ∧ NoticeLaw State.reset ∧ FramingLaw State.reset
    ∧ StrideLaw State.reset ∧ StrideRangeLaw State.reset ∧ QueueLaw State.reset ∧ PriorityLaw State.reset
    ∧ WindowLaw State.reset ∧ AnswerLaw State.reset ∧ SlotLaw State.reset ∧ TimebaseLaw State.reset
    ∧ ArbiterLaw State.reset ∧ AccumulatorLaw State.reset ∧ OutcomeLaw State.reset ∧ DeadlineLaw State.reset
    ∧ PublicationLaw State.reset ∧ RoundLaw State.reset ∧ MembershipLaw State.reset ∧ ResultLaw State.reset
    ∧ DispatchLaw State.reset ∧ GrantLaw State.reset

/-- Every step keeps law L3 (entries held plus reservations never exceed 32), the level of the notification lines, the
count of acknowledgements awaited within 0 to 255, and what the framing of a port may hold. That acknowledgements are
messages, that waiting port resets are counted, and what a port in DELIVERING holds, are the model's reading, logs 7,
8 and 16. What it says of SUPPLIES_COME_UP and DEVICE_RESET rests on the model's choices of logs 2 and 10. -/
def Obligations.StepKeepsThePortAndCompletionQueueLaws : Prop :=
  ∀ s t : State, step s = .next t →
    (CreditLaw s → CreditLaw t) ∧ (LineLaw s → LineLaw t) ∧ (NoticeLaw s → NoticeLaw t) ∧ (FramingLaw s → FramingLaw t)

/-- Every step keeps law L4 (each reference count is the number of namings), the 24-bit range of the stride values,
the capacity, the host counts and quotas of the Pending Queue and its order by priority. After every step whatever, no
free unit and eligible entry both exist: a dispatch is made in the event that makes it possible (R99). What it says of
SUPPLIES_COME_UP and DEVICE_RESET rests on the model's choices of logs 2 and 10. -/
def Obligations.StepKeepsTheStrideAndPendingQueueLaws : Prop :=
  ∀ s t : State, step s = .next t →
    (StrideLaw s → StrideLaw t) ∧ (StrideRangeLaw s → StrideRangeLaw t) ∧ (QueueLaw s → QueueLaw t)
      ∧ (PriorityLaw s → PriorityLaw t) ∧ DispatchLaw t

/-- Every step keeps law L8 and the treated head of each window, the bounds of the response timers and of the tick
counter, the arbiter's grant and HOLD owner, and, with L8, the match between what waits for an answer and what will be
answered. After every step whatever, no grant is due: it is made in the event in which its conditions first hold
(R124). The grant's withdrawn mark and the readiness of the memory side are the model's, logs 13 and 12. That the
timer of a FREE slot stands at 0 is the model's reading, log 16, and the periods of a tick before the first device
reset are its choice, log 3. What it says of SUPPLIES_COME_UP and DEVICE_RESET rests on the model's choices of logs 2
and 10. -/
def Obligations.StepKeepsTheMemoryPortLaws : Prop :=
  ∀ s t : State, step s = .next t →
    (WindowLaw s → WindowLaw t) ∧ (SlotLaw s → SlotLaw t) ∧ (TimebaseLaw s → TimebaseLaw t)
      ∧ (ArbiterLaw s → ArbiterLaw t) ∧ (WindowLaw s → AnswerLaw s → AnswerLaw t) ∧ GrantLaw t

/-- Every step keeps law L7 (the accumulator's range), law L6's bounds with the outcome, fault record and result of
each phase, and the bounds of the deadline timers; and, with the round and outcome laws, law L6's other half: a result
is VOID if and only if its outcome is not COMPLETE or EMPTY is set under MAX or MIN. That a unit outside WALKING holds
its working values absent and 0 is the model's reading, log 16. What it says of SUPPLIES_COME_UP and DEVICE_RESET
rests on the model's choices of logs 2 and 10. -/
def Obligations.StepKeepsTheArithmeticLaws : Prop :=
  ∀ s t : State, step s = .next t →
    (AccumulatorLaw s → AccumulatorLaw t) ∧ (OutcomeLaw s → OutcomeLaw t) ∧ (DeadlineLaw s → DeadlineLaw t)
      ∧ (RoundLaw s → OutcomeLaw s → ResultLaw s → ResultLaw t)

/-- Every step keeps laws L1, L2 and L5 as RoundLaw states them, and the one place of every PUBLISHING cell between
the Publication Queue, the Publisher and its reports. What it says of SUPPLIES_COME_UP and DEVICE_RESET rests on the
model's choices of logs 2 and 10. -/
def Obligations.StepKeepsTheRoundLaws : Prop :=
  ∀ s t : State, step s = .next t → (RoundLaw s → RoundLaw t) ∧ (PublicationLaw s → PublicationLaw t)

/-- With the framing, notice and round laws, every step keeps a reservation for every membership, and none for a host
whose port reset is in progress. That acknowledgements are messages is the model's reading, log 7. What it says of
SUPPLIES_COME_UP and DEVICE_RESET rests on the model's choices of logs 2 and 10. -/
def Obligations.StepKeepsAReservationForEveryMembership : Prop :=
  ∀ s t : State, step s = .next t →
    FramingLaw s → NoticeLaw s → RoundLaw s → MembershipLaw s → MembershipLaw t

/-- A state that meets the laws never faults: no report, publication report or answer reaches a block that does not
await it. The faults, and which events raise them, are the model's, log 17. -/
def Obligations.SoundStatesNeverFault : Prop :=
  ∀ (s : State) (f : Fault),
    WindowLaw s → AnswerLaw s → RoundLaw s → PublicationLaw s → step s ≠ .fault f

/-- What one step can do to a round number (L9), an error latch (L11), a stride value (L4) and the Publisher's second
write (L10). A round number is kept, or increases by one as its cell enters COLLECTING, or is 0 after a device reset
or the supplies; a latched kind is lost only to its host's ACK, a device reset or the supplies; the value of a
referenced stride entry is kept; the second write is offered only when the answer OK to the first is taken. That
SUPPLIES_COME_UP may set round numbers to 0 and clear latches and stride values is the model's choice, log 2 (R117
gives the supplies the epoch alone), and that each PORT CONTROL row carries the whole word, its ACK set with it, is
the model's reading, log 7. -/
def Obligations.StepKeepsTheHistoryLaws : Prop :=
  ∀ (s t : State) (i : Instr), exec i s = .next t →
    let restarts := i = .deviceReset ∨ i = .suppliesComeUp
    (∀ c : CellId,
        t.cells[c].number = s.cells[c].number
          ∨ (t.cells[c].number = s.cells[c].number + 1
            ∧ ∃ r, t.cells[c].round = some r ∧ r.phase = .collecting ∧ r.posted = 0 ∧ r.arrived = 0)
          ∨ (restarts ∧ t.cells[c].number = 0))
      ∧ (∀ (h : HostId) (kind : Nat), s.queues[h].latch.getLsbD kind = true →
        t.queues[h].latch.getLsbD kind = true ∨ restarts
          ∨ ∃ w : Word, (i = .discard h w ∨ i = .ack h w ∨ i = .setEnables h w ∨ i = .selectView h w ∨ i = .portReset h w)
            ∧ w.getLsbD 31 = false ∧ w.getLsbD kind = true)
      ∧ (∀ e : StrideId, 1 ≤ s.strides[e].count → t.strides[e].value = s.strides[e].value ∨ restarts)
      ∧ ∀ p, t.publisher = some p → p.step = .secondWrite →
        ∃ q, s.publisher = some q ∧ q.cell = p.cell
          ∧ (q.step = .secondWrite
            ∨ (q.step = .firstWrite ∧ q.waiting = true ∧ i = .publisherAnswer
              ∧ ∃ data, s.answers[publisherSlot] = some (.ok data)))
end

