-- ==== Sys2Proof/Laws/Bits.lean ====
section
/-! SUPPORT. What the bit-field helpers compute, in the terms of the library's bit vectors: a field read, a word packed
from fields, a set of hosts, a tag. -/

namespace Sys2Proof.Machine

set_option Elab.async false

/-! ### Reading fields -/

/-- A field of a word is the number of the bits it covers. -/
theorem bitField_eq (word : Word) (hi lo : Nat) : bitField word hi lo = (word.extractLsb' lo (hi - lo + 1)).toNat := by
  simp [bitField, BitVec.extractLsb'_toNat, Nat.shiftRight_eq_div_pow]

/-- A field is below the power of two of its width. -/
theorem bitField_lt (word : Word) (hi lo : Nat) : bitField word hi lo < 2 ^ (hi - lo + 1) :=
  Nat.mod_lt _ (by positivity)

/-- A signed field is the two's complement of the bits it covers. -/
theorem signedField_eq (word : Word) (hi lo : Nat) :
    signedField word hi lo = (word.extractLsb' lo (hi - lo + 1)).toInt := by
  rw [signedField, bitField_eq, BitVec.ofNat_toNat, BitVec.setWidth_eq]

/-- One bit of a word is the library's bit. -/
theorem bitSet_eq (word : Word) (n : Nat) : bitSet word n = word.getLsbD n := by
  rw [bitSet, bitField, BitVec.getLsbD, Nat.testBit_eq_decide_div_mod_eq]
  simp [beq_eq_decide]

/-- The code of a command is the number of its four top bits. -/
theorem commandCode_eq (word : Word) : commandCode word = (word.extractLsb' 28 4).toNat :=
  bitField_eq word 31 28

/-- The code of a command as a quotient. -/
theorem commandCode_div (word : Word) : commandCode word = word.toNat / 2 ^ 28 := by
  have := word.isLt
  simp only [commandCode, bitField]
  omega

/-! ### Sets of hosts -/

/-- A host is in a set with one host added when it is that host or was in the set. -/
@[simp] theorem member_join (set : HostSet) (h g : HostId) :
    member (join set h) g = (member set g || decide (g = h)) := by
  revert set h g
  decide +kernel

/-- A host is in a set with one host removed when it was in the set and is not that host. -/
@[simp] theorem member_leave (set : HostSet) (h g : HostId) :
    member (leave set h) g = (member set g && !decide (g = h)) := by
  revert set h g
  decide +kernel

/-- No host is in the empty set. -/
@[simp] theorem member_zero (g : HostId) : member 0 g = false := by
  revert g
  decide

/-- Two sets with the same members are equal. -/
theorem hostSet_ext {a b : HostSet} (h : ∀ g : HostId, member a g = member b g) : a = b := by
  revert a b
  decide +kernel

/-! ### Packing fields -/

/-- A word packed from one field. -/
theorem packFields_one (hi lo v : Nat) :
    packFields [(hi, lo, v)] = BitVec.ofNat 32 (v % 2 ^ (hi - lo + 1) * 2 ^ lo) := by
  simp [packFields]

/-! ### Memory request tags -/

/-- The sequence number of a tag is its bits 8:5. -/
theorem tagSequence_eq (tag : BitVec 10) : tagSequence tag = tag.extractLsb' 5 4 := by
  apply BitVec.eq_of_toNat_eq
  simp [tagSequence, BitVec.extractLsb'_toNat, Nat.shiftRight_eq_div_pow]

/-- The slot of a tag is the number of its bits 4:0, where that names a slot. -/
theorem tagSlot_eq_some (tag : BitVec 10) (k : SlotId) : tagSlot tag = some k ↔ (tag.extractLsb' 0 5).toNat = k.val := by
  have : (tag.extractLsb' 0 5).toNat = tag.toNat % 32 := by simp [BitVec.extractLsb'_toNat]
  rw [this, tagSlot]
  split <;> rename_i hlt
  · rw [Option.some_inj, Fin.ext_iff]
  · simp only [reduceCtorEq, false_iff]
    have := k.isLt
    omega

/-- The three parts of a tag read back. -/
theorem makeTag_parts (slot : SlotId) (sequence : BitVec 4) (epoch : Bool) :
    ((makeTag slot sequence epoch).extractLsb' 0 5).toNat = slot.val
      ∧ (makeTag slot sequence epoch).extractLsb' 5 4 = sequence
      ∧ (makeTag slot sequence epoch).getLsbD 9 = epoch := by
  revert slot sequence epoch
  decide +kernel

/-! ### Words of the port's statuses -/

/-- A round number as a status value is zero-extended. -/
theorem roundValue_eq (number : RoundNumber) : roundValue number = number.setWidth 32 := by
  apply BitVec.eq_of_toNat_eq
  have := number.isLt
  simp [roundValue, packFields]
  omega

/-- The value of a port's BAD_FIELD. -/
theorem portFaultValue_eq (index : Nat) : portFaultValue index = 0x80000000 + BitVec.ofNat 32 (index % 8) := by
  apply BitVec.eq_of_toNat_eq
  simp [portFaultValue, packFields]

end Sys2Proof.Machine
end

