-- ==== Sys2Proof/Laws/State.lean ====
section
/-! SUPPORT. One lemma per field per update of the state, each true by rfl, and what an updated table reads at an index. -/

namespace Sys2Proof.Machine

set_option Elab.async false

/-! ### The fields after writing one port -/

@[simp] theorem State.putPort_pending (s : State) (h : HostId) (p : HostPort) :
    (s.putPort h p).pending = s.pending := rfl

@[simp] theorem State.putPort_ports (s : State) (h : HostId) (p : HostPort) :
    (s.putPort h p).ports = s.ports.set h p := rfl

@[simp] theorem State.putPort_queues (s : State) (h : HostId) (p : HostPort) :
    (s.putPort h p).queues = s.queues := rfl

@[simp] theorem State.putPort_cells (s : State) (h : HostId) (p : HostPort) :
    (s.putPort h p).cells = s.cells := rfl

@[simp] theorem State.putPort_strides (s : State) (h : HostId) (p : HostPort) :
    (s.putPort h p).strides = s.strides := rfl

@[simp] theorem State.putPort_contributions (s : State) (h : HostId) (p : HostPort) :
    (s.putPort h p).contributions = s.contributions := rfl

@[simp] theorem State.putPort_hostCounts (s : State) (h : HostId) (p : HostPort) :
    (s.putPort h p).hostCounts = s.hostCounts := rfl

@[simp] theorem State.putPort_units (s : State) (h : HostId) (p : HostPort) :
    (s.putPort h p).units = s.units := rfl

@[simp] theorem State.putPort_publicationQueue (s : State) (h : HostId) (p : HostPort) :
    (s.putPort h p).publicationQueue = s.publicationQueue := rfl

@[simp] theorem State.putPort_publisher (s : State) (h : HostId) (p : HostPort) :
    (s.putPort h p).publisher = s.publisher := rfl

@[simp] theorem State.putPort_slots (s : State) (h : HostId) (p : HostPort) :
    (s.putPort h p).slots = s.slots := rfl

@[simp] theorem State.putPort_epoch (s : State) (h : HostId) (p : HostPort) :
    (s.putPort h p).epoch = s.epoch := rfl

@[simp] theorem State.putPort_rotation (s : State) (h : HostId) (p : HostPort) :
    (s.putPort h p).rotation = s.rotation := rfl

@[simp] theorem State.putPort_holdOwner (s : State) (h : HostId) (p : HostPort) :
    (s.putPort h p).holdOwner = s.holdOwner := rfl

@[simp] theorem State.putPort_grant (s : State) (h : HostId) (p : HostPort) :
    (s.putPort h p).grant = s.grant := rfl

@[simp] theorem State.putPort_memoryReady (s : State) (h : HostId) (p : HostPort) :
    (s.putPort h p).memoryReady = s.memoryReady := rfl

@[simp] theorem State.putPort_request (s : State) (h : HostId) (p : HostPort) :
    (s.putPort h p).request = s.request := rfl

@[simp] theorem State.putPort_answers (s : State) (h : HostId) (p : HostPort) :
    (s.putPort h p).answers = s.answers := rfl

@[simp] theorem State.putPort_walkReports (s : State) (h : HostId) (p : HostPort) :
    (s.putPort h p).walkReports = s.walkReports := rfl

@[simp] theorem State.putPort_publicationReports (s : State) (h : HostId) (p : HostPort) :
    (s.putPort h p).publicationReports = s.publicationReports := rfl

@[simp] theorem State.putPort_cancels (s : State) (h : HostId) (p : HostPort) :
    (s.putPort h p).cancels = s.cancels := rfl

@[simp] theorem State.putPort_deadlineTicks (s : State) (h : HostId) (p : HostPort) :
    (s.putPort h p).deadlineTicks = s.deadlineTicks := rfl

@[simp] theorem State.putPort_responseTicks (s : State) (h : HostId) (p : HostPort) :
    (s.putPort h p).responseTicks = s.responseTicks := rfl

@[simp] theorem State.putPort_tickCounter (s : State) (h : HostId) (p : HostPort) :
    (s.putPort h p).tickCounter = s.tickCounter := rfl

@[simp] theorem State.putPort_periods (s : State) (h : HostId) (p : HostPort) :
    (s.putPort h p).periods = s.periods := rfl

@[simp] theorem State.putPort_deviceReset (s : State) (h : HostId) (p : HostPort) :
    (s.putPort h p).deviceReset = s.deviceReset := rfl

@[simp] theorem State.putPort_busData (s : State) (h : HostId) (p : HostPort) :
    (s.putPort h p).busData = s.busData := rfl

@[simp] theorem State.putPort_lossCount (s : State) (h : HostId) (p : HostPort) :
    (s.putPort h p).lossCount = s.lossCount := rfl

/-! ### The fields after writing one completion queue -/

@[simp] theorem State.putQueue_pending (s : State) (h : HostId) (q : CompletionQueue) :
    (s.putQueue h q).pending = s.pending := rfl

@[simp] theorem State.putQueue_ports (s : State) (h : HostId) (q : CompletionQueue) :
    (s.putQueue h q).ports = s.ports := rfl

@[simp] theorem State.putQueue_queues (s : State) (h : HostId) (q : CompletionQueue) :
    (s.putQueue h q).queues = s.queues.set h { q with line := lineLevel q s.ports[h] } := rfl

@[simp] theorem State.putQueue_cells (s : State) (h : HostId) (q : CompletionQueue) :
    (s.putQueue h q).cells = s.cells := rfl

@[simp] theorem State.putQueue_strides (s : State) (h : HostId) (q : CompletionQueue) :
    (s.putQueue h q).strides = s.strides := rfl

@[simp] theorem State.putQueue_contributions (s : State) (h : HostId) (q : CompletionQueue) :
    (s.putQueue h q).contributions = s.contributions := rfl

@[simp] theorem State.putQueue_hostCounts (s : State) (h : HostId) (q : CompletionQueue) :
    (s.putQueue h q).hostCounts = s.hostCounts := rfl

@[simp] theorem State.putQueue_units (s : State) (h : HostId) (q : CompletionQueue) :
    (s.putQueue h q).units = s.units := rfl

@[simp] theorem State.putQueue_publicationQueue (s : State) (h : HostId) (q : CompletionQueue) :
    (s.putQueue h q).publicationQueue = s.publicationQueue := rfl

@[simp] theorem State.putQueue_publisher (s : State) (h : HostId) (q : CompletionQueue) :
    (s.putQueue h q).publisher = s.publisher := rfl

@[simp] theorem State.putQueue_slots (s : State) (h : HostId) (q : CompletionQueue) :
    (s.putQueue h q).slots = s.slots := rfl

@[simp] theorem State.putQueue_epoch (s : State) (h : HostId) (q : CompletionQueue) :
    (s.putQueue h q).epoch = s.epoch := rfl

@[simp] theorem State.putQueue_rotation (s : State) (h : HostId) (q : CompletionQueue) :
    (s.putQueue h q).rotation = s.rotation := rfl

@[simp] theorem State.putQueue_holdOwner (s : State) (h : HostId) (q : CompletionQueue) :
    (s.putQueue h q).holdOwner = s.holdOwner := rfl

@[simp] theorem State.putQueue_grant (s : State) (h : HostId) (q : CompletionQueue) :
    (s.putQueue h q).grant = s.grant := rfl

@[simp] theorem State.putQueue_memoryReady (s : State) (h : HostId) (q : CompletionQueue) :
    (s.putQueue h q).memoryReady = s.memoryReady := rfl

@[simp] theorem State.putQueue_request (s : State) (h : HostId) (q : CompletionQueue) :
    (s.putQueue h q).request = s.request := rfl

@[simp] theorem State.putQueue_answers (s : State) (h : HostId) (q : CompletionQueue) :
    (s.putQueue h q).answers = s.answers := rfl

@[simp] theorem State.putQueue_walkReports (s : State) (h : HostId) (q : CompletionQueue) :
    (s.putQueue h q).walkReports = s.walkReports := rfl

@[simp] theorem State.putQueue_publicationReports (s : State) (h : HostId) (q : CompletionQueue) :
    (s.putQueue h q).publicationReports = s.publicationReports := rfl

@[simp] theorem State.putQueue_cancels (s : State) (h : HostId) (q : CompletionQueue) :
    (s.putQueue h q).cancels = s.cancels := rfl

@[simp] theorem State.putQueue_deadlineTicks (s : State) (h : HostId) (q : CompletionQueue) :
    (s.putQueue h q).deadlineTicks = s.deadlineTicks := rfl

@[simp] theorem State.putQueue_responseTicks (s : State) (h : HostId) (q : CompletionQueue) :
    (s.putQueue h q).responseTicks = s.responseTicks := rfl

@[simp] theorem State.putQueue_tickCounter (s : State) (h : HostId) (q : CompletionQueue) :
    (s.putQueue h q).tickCounter = s.tickCounter := rfl

@[simp] theorem State.putQueue_periods (s : State) (h : HostId) (q : CompletionQueue) :
    (s.putQueue h q).periods = s.periods := rfl

@[simp] theorem State.putQueue_deviceReset (s : State) (h : HostId) (q : CompletionQueue) :
    (s.putQueue h q).deviceReset = s.deviceReset := rfl

@[simp] theorem State.putQueue_busData (s : State) (h : HostId) (q : CompletionQueue) :
    (s.putQueue h q).busData = s.busData := rfl

@[simp] theorem State.putQueue_lossCount (s : State) (h : HostId) (q : CompletionQueue) :
    (s.putQueue h q).lossCount = s.lossCount := rfl

/-! ### The fields after writing one cell -/

@[simp] theorem State.putCell_pending (s : State) (c : CellId) (x : Cell) :
    (s.putCell c x).pending = s.pending := rfl

@[simp] theorem State.putCell_ports (s : State) (c : CellId) (x : Cell) :
    (s.putCell c x).ports = s.ports := rfl

@[simp] theorem State.putCell_queues (s : State) (c : CellId) (x : Cell) :
    (s.putCell c x).queues = s.queues := rfl

@[simp] theorem State.putCell_cells (s : State) (c : CellId) (x : Cell) :
    (s.putCell c x).cells = s.cells.set c x := rfl

@[simp] theorem State.putCell_strides (s : State) (c : CellId) (x : Cell) :
    (s.putCell c x).strides = s.strides := rfl

@[simp] theorem State.putCell_contributions (s : State) (c : CellId) (x : Cell) :
    (s.putCell c x).contributions = s.contributions := rfl

@[simp] theorem State.putCell_hostCounts (s : State) (c : CellId) (x : Cell) :
    (s.putCell c x).hostCounts = s.hostCounts := rfl

@[simp] theorem State.putCell_units (s : State) (c : CellId) (x : Cell) :
    (s.putCell c x).units = s.units := rfl

@[simp] theorem State.putCell_publicationQueue (s : State) (c : CellId) (x : Cell) :
    (s.putCell c x).publicationQueue = s.publicationQueue := rfl

@[simp] theorem State.putCell_publisher (s : State) (c : CellId) (x : Cell) :
    (s.putCell c x).publisher = s.publisher := rfl

@[simp] theorem State.putCell_slots (s : State) (c : CellId) (x : Cell) :
    (s.putCell c x).slots = s.slots := rfl

@[simp] theorem State.putCell_epoch (s : State) (c : CellId) (x : Cell) :
    (s.putCell c x).epoch = s.epoch := rfl

@[simp] theorem State.putCell_rotation (s : State) (c : CellId) (x : Cell) :
    (s.putCell c x).rotation = s.rotation := rfl

@[simp] theorem State.putCell_holdOwner (s : State) (c : CellId) (x : Cell) :
    (s.putCell c x).holdOwner = s.holdOwner := rfl

@[simp] theorem State.putCell_grant (s : State) (c : CellId) (x : Cell) :
    (s.putCell c x).grant = s.grant := rfl

@[simp] theorem State.putCell_memoryReady (s : State) (c : CellId) (x : Cell) :
    (s.putCell c x).memoryReady = s.memoryReady := rfl

@[simp] theorem State.putCell_request (s : State) (c : CellId) (x : Cell) :
    (s.putCell c x).request = s.request := rfl

@[simp] theorem State.putCell_answers (s : State) (c : CellId) (x : Cell) :
    (s.putCell c x).answers = s.answers := rfl

@[simp] theorem State.putCell_walkReports (s : State) (c : CellId) (x : Cell) :
    (s.putCell c x).walkReports = s.walkReports := rfl

@[simp] theorem State.putCell_publicationReports (s : State) (c : CellId) (x : Cell) :
    (s.putCell c x).publicationReports = s.publicationReports := rfl

@[simp] theorem State.putCell_cancels (s : State) (c : CellId) (x : Cell) :
    (s.putCell c x).cancels = s.cancels := rfl

@[simp] theorem State.putCell_deadlineTicks (s : State) (c : CellId) (x : Cell) :
    (s.putCell c x).deadlineTicks = s.deadlineTicks := rfl

@[simp] theorem State.putCell_responseTicks (s : State) (c : CellId) (x : Cell) :
    (s.putCell c x).responseTicks = s.responseTicks := rfl

@[simp] theorem State.putCell_tickCounter (s : State) (c : CellId) (x : Cell) :
    (s.putCell c x).tickCounter = s.tickCounter := rfl

@[simp] theorem State.putCell_periods (s : State) (c : CellId) (x : Cell) :
    (s.putCell c x).periods = s.periods := rfl

@[simp] theorem State.putCell_deviceReset (s : State) (c : CellId) (x : Cell) :
    (s.putCell c x).deviceReset = s.deviceReset := rfl

@[simp] theorem State.putCell_busData (s : State) (c : CellId) (x : Cell) :
    (s.putCell c x).busData = s.busData := rfl

@[simp] theorem State.putCell_lossCount (s : State) (c : CellId) (x : Cell) :
    (s.putCell c x).lossCount = s.lossCount := rfl

/-! ### The fields after writing the record of one cell -/

@[simp] theorem State.putRound_pending (s : State) (c : CellId) (r : Round) :
    (s.putRound c r).pending = s.pending := rfl

@[simp] theorem State.putRound_ports (s : State) (c : CellId) (r : Round) :
    (s.putRound c r).ports = s.ports := rfl

@[simp] theorem State.putRound_queues (s : State) (c : CellId) (r : Round) :
    (s.putRound c r).queues = s.queues := rfl

@[simp] theorem State.putRound_cells (s : State) (c : CellId) (r : Round) :
    (s.putRound c r).cells = s.cells.set c { number := s.cells[c].number, round := some r } := rfl

@[simp] theorem State.putRound_strides (s : State) (c : CellId) (r : Round) :
    (s.putRound c r).strides = s.strides := rfl

@[simp] theorem State.putRound_contributions (s : State) (c : CellId) (r : Round) :
    (s.putRound c r).contributions = s.contributions := rfl

@[simp] theorem State.putRound_hostCounts (s : State) (c : CellId) (r : Round) :
    (s.putRound c r).hostCounts = s.hostCounts := rfl

@[simp] theorem State.putRound_units (s : State) (c : CellId) (r : Round) :
    (s.putRound c r).units = s.units := rfl

@[simp] theorem State.putRound_publicationQueue (s : State) (c : CellId) (r : Round) :
    (s.putRound c r).publicationQueue = s.publicationQueue := rfl

@[simp] theorem State.putRound_publisher (s : State) (c : CellId) (r : Round) :
    (s.putRound c r).publisher = s.publisher := rfl

@[simp] theorem State.putRound_slots (s : State) (c : CellId) (r : Round) :
    (s.putRound c r).slots = s.slots := rfl

@[simp] theorem State.putRound_epoch (s : State) (c : CellId) (r : Round) :
    (s.putRound c r).epoch = s.epoch := rfl

@[simp] theorem State.putRound_rotation (s : State) (c : CellId) (r : Round) :
    (s.putRound c r).rotation = s.rotation := rfl

@[simp] theorem State.putRound_holdOwner (s : State) (c : CellId) (r : Round) :
    (s.putRound c r).holdOwner = s.holdOwner := rfl

@[simp] theorem State.putRound_grant (s : State) (c : CellId) (r : Round) :
    (s.putRound c r).grant = s.grant := rfl

@[simp] theorem State.putRound_memoryReady (s : State) (c : CellId) (r : Round) :
    (s.putRound c r).memoryReady = s.memoryReady := rfl

@[simp] theorem State.putRound_request (s : State) (c : CellId) (r : Round) :
    (s.putRound c r).request = s.request := rfl

@[simp] theorem State.putRound_answers (s : State) (c : CellId) (r : Round) :
    (s.putRound c r).answers = s.answers := rfl

@[simp] theorem State.putRound_walkReports (s : State) (c : CellId) (r : Round) :
    (s.putRound c r).walkReports = s.walkReports := rfl

@[simp] theorem State.putRound_publicationReports (s : State) (c : CellId) (r : Round) :
    (s.putRound c r).publicationReports = s.publicationReports := rfl

@[simp] theorem State.putRound_cancels (s : State) (c : CellId) (r : Round) :
    (s.putRound c r).cancels = s.cancels := rfl

@[simp] theorem State.putRound_deadlineTicks (s : State) (c : CellId) (r : Round) :
    (s.putRound c r).deadlineTicks = s.deadlineTicks := rfl

@[simp] theorem State.putRound_responseTicks (s : State) (c : CellId) (r : Round) :
    (s.putRound c r).responseTicks = s.responseTicks := rfl

@[simp] theorem State.putRound_tickCounter (s : State) (c : CellId) (r : Round) :
    (s.putRound c r).tickCounter = s.tickCounter := rfl

@[simp] theorem State.putRound_periods (s : State) (c : CellId) (r : Round) :
    (s.putRound c r).periods = s.periods := rfl

@[simp] theorem State.putRound_deviceReset (s : State) (c : CellId) (r : Round) :
    (s.putRound c r).deviceReset = s.deviceReset := rfl

@[simp] theorem State.putRound_busData (s : State) (c : CellId) (r : Round) :
    (s.putRound c r).busData = s.busData := rfl

@[simp] theorem State.putRound_lossCount (s : State) (c : CellId) (r : Round) :
    (s.putRound c r).lossCount = s.lossCount := rfl

/-! ### The fields after writing one walk unit -/

@[simp] theorem State.putUnit_pending (s : State) (w : UnitId) (u : WalkUnit) :
    (s.putUnit w u).pending = s.pending := rfl

@[simp] theorem State.putUnit_ports (s : State) (w : UnitId) (u : WalkUnit) :
    (s.putUnit w u).ports = s.ports := rfl

@[simp] theorem State.putUnit_queues (s : State) (w : UnitId) (u : WalkUnit) :
    (s.putUnit w u).queues = s.queues := rfl

@[simp] theorem State.putUnit_cells (s : State) (w : UnitId) (u : WalkUnit) :
    (s.putUnit w u).cells = s.cells := rfl

@[simp] theorem State.putUnit_strides (s : State) (w : UnitId) (u : WalkUnit) :
    (s.putUnit w u).strides = s.strides := rfl

@[simp] theorem State.putUnit_contributions (s : State) (w : UnitId) (u : WalkUnit) :
    (s.putUnit w u).contributions = s.contributions := rfl

@[simp] theorem State.putUnit_hostCounts (s : State) (w : UnitId) (u : WalkUnit) :
    (s.putUnit w u).hostCounts = s.hostCounts := rfl

@[simp] theorem State.putUnit_units (s : State) (w : UnitId) (u : WalkUnit) :
    (s.putUnit w u).units = s.units.set w u := rfl

@[simp] theorem State.putUnit_publicationQueue (s : State) (w : UnitId) (u : WalkUnit) :
    (s.putUnit w u).publicationQueue = s.publicationQueue := rfl

@[simp] theorem State.putUnit_publisher (s : State) (w : UnitId) (u : WalkUnit) :
    (s.putUnit w u).publisher = s.publisher := rfl

@[simp] theorem State.putUnit_slots (s : State) (w : UnitId) (u : WalkUnit) :
    (s.putUnit w u).slots = s.slots := rfl

@[simp] theorem State.putUnit_epoch (s : State) (w : UnitId) (u : WalkUnit) :
    (s.putUnit w u).epoch = s.epoch := rfl

@[simp] theorem State.putUnit_rotation (s : State) (w : UnitId) (u : WalkUnit) :
    (s.putUnit w u).rotation = s.rotation := rfl

@[simp] theorem State.putUnit_holdOwner (s : State) (w : UnitId) (u : WalkUnit) :
    (s.putUnit w u).holdOwner = s.holdOwner := rfl

@[simp] theorem State.putUnit_grant (s : State) (w : UnitId) (u : WalkUnit) :
    (s.putUnit w u).grant = s.grant := rfl

@[simp] theorem State.putUnit_memoryReady (s : State) (w : UnitId) (u : WalkUnit) :
    (s.putUnit w u).memoryReady = s.memoryReady := rfl

@[simp] theorem State.putUnit_request (s : State) (w : UnitId) (u : WalkUnit) :
    (s.putUnit w u).request = s.request := rfl

@[simp] theorem State.putUnit_answers (s : State) (w : UnitId) (u : WalkUnit) :
    (s.putUnit w u).answers = s.answers := rfl

@[simp] theorem State.putUnit_walkReports (s : State) (w : UnitId) (u : WalkUnit) :
    (s.putUnit w u).walkReports = s.walkReports := rfl

@[simp] theorem State.putUnit_publicationReports (s : State) (w : UnitId) (u : WalkUnit) :
    (s.putUnit w u).publicationReports = s.publicationReports := rfl

@[simp] theorem State.putUnit_cancels (s : State) (w : UnitId) (u : WalkUnit) :
    (s.putUnit w u).cancels = s.cancels := rfl

@[simp] theorem State.putUnit_deadlineTicks (s : State) (w : UnitId) (u : WalkUnit) :
    (s.putUnit w u).deadlineTicks = s.deadlineTicks := rfl

@[simp] theorem State.putUnit_responseTicks (s : State) (w : UnitId) (u : WalkUnit) :
    (s.putUnit w u).responseTicks = s.responseTicks := rfl

@[simp] theorem State.putUnit_tickCounter (s : State) (w : UnitId) (u : WalkUnit) :
    (s.putUnit w u).tickCounter = s.tickCounter := rfl

@[simp] theorem State.putUnit_periods (s : State) (w : UnitId) (u : WalkUnit) :
    (s.putUnit w u).periods = s.periods := rfl

@[simp] theorem State.putUnit_deviceReset (s : State) (w : UnitId) (u : WalkUnit) :
    (s.putUnit w u).deviceReset = s.deviceReset := rfl

@[simp] theorem State.putUnit_busData (s : State) (w : UnitId) (u : WalkUnit) :
    (s.putUnit w u).busData = s.busData := rfl

@[simp] theorem State.putUnit_lossCount (s : State) (w : UnitId) (u : WalkUnit) :
    (s.putUnit w u).lossCount = s.lossCount := rfl

/-! ### The fields after writing one stride entry -/

@[simp] theorem State.putStride_pending (s : State) (e : StrideId) (x : StrideEntry) :
    (s.putStride e x).pending = s.pending := rfl

@[simp] theorem State.putStride_ports (s : State) (e : StrideId) (x : StrideEntry) :
    (s.putStride e x).ports = s.ports := rfl

@[simp] theorem State.putStride_queues (s : State) (e : StrideId) (x : StrideEntry) :
    (s.putStride e x).queues = s.queues := rfl

@[simp] theorem State.putStride_cells (s : State) (e : StrideId) (x : StrideEntry) :
    (s.putStride e x).cells = s.cells := rfl

@[simp] theorem State.putStride_strides (s : State) (e : StrideId) (x : StrideEntry) :
    (s.putStride e x).strides = s.strides.set e x := rfl

@[simp] theorem State.putStride_contributions (s : State) (e : StrideId) (x : StrideEntry) :
    (s.putStride e x).contributions = s.contributions := rfl

@[simp] theorem State.putStride_hostCounts (s : State) (e : StrideId) (x : StrideEntry) :
    (s.putStride e x).hostCounts = s.hostCounts := rfl

@[simp] theorem State.putStride_units (s : State) (e : StrideId) (x : StrideEntry) :
    (s.putStride e x).units = s.units := rfl

@[simp] theorem State.putStride_publicationQueue (s : State) (e : StrideId) (x : StrideEntry) :
    (s.putStride e x).publicationQueue = s.publicationQueue := rfl

@[simp] theorem State.putStride_publisher (s : State) (e : StrideId) (x : StrideEntry) :
    (s.putStride e x).publisher = s.publisher := rfl

@[simp] theorem State.putStride_slots (s : State) (e : StrideId) (x : StrideEntry) :
    (s.putStride e x).slots = s.slots := rfl

@[simp] theorem State.putStride_epoch (s : State) (e : StrideId) (x : StrideEntry) :
    (s.putStride e x).epoch = s.epoch := rfl

@[simp] theorem State.putStride_rotation (s : State) (e : StrideId) (x : StrideEntry) :
    (s.putStride e x).rotation = s.rotation := rfl

@[simp] theorem State.putStride_holdOwner (s : State) (e : StrideId) (x : StrideEntry) :
    (s.putStride e x).holdOwner = s.holdOwner := rfl

@[simp] theorem State.putStride_grant (s : State) (e : StrideId) (x : StrideEntry) :
    (s.putStride e x).grant = s.grant := rfl

@[simp] theorem State.putStride_memoryReady (s : State) (e : StrideId) (x : StrideEntry) :
    (s.putStride e x).memoryReady = s.memoryReady := rfl

@[simp] theorem State.putStride_request (s : State) (e : StrideId) (x : StrideEntry) :
    (s.putStride e x).request = s.request := rfl

@[simp] theorem State.putStride_answers (s : State) (e : StrideId) (x : StrideEntry) :
    (s.putStride e x).answers = s.answers := rfl

@[simp] theorem State.putStride_walkReports (s : State) (e : StrideId) (x : StrideEntry) :
    (s.putStride e x).walkReports = s.walkReports := rfl

@[simp] theorem State.putStride_publicationReports (s : State) (e : StrideId) (x : StrideEntry) :
    (s.putStride e x).publicationReports = s.publicationReports := rfl

@[simp] theorem State.putStride_cancels (s : State) (e : StrideId) (x : StrideEntry) :
    (s.putStride e x).cancels = s.cancels := rfl

@[simp] theorem State.putStride_deadlineTicks (s : State) (e : StrideId) (x : StrideEntry) :
    (s.putStride e x).deadlineTicks = s.deadlineTicks := rfl

@[simp] theorem State.putStride_responseTicks (s : State) (e : StrideId) (x : StrideEntry) :
    (s.putStride e x).responseTicks = s.responseTicks := rfl

@[simp] theorem State.putStride_tickCounter (s : State) (e : StrideId) (x : StrideEntry) :
    (s.putStride e x).tickCounter = s.tickCounter := rfl

@[simp] theorem State.putStride_periods (s : State) (e : StrideId) (x : StrideEntry) :
    (s.putStride e x).periods = s.periods := rfl

@[simp] theorem State.putStride_deviceReset (s : State) (e : StrideId) (x : StrideEntry) :
    (s.putStride e x).deviceReset = s.deviceReset := rfl

@[simp] theorem State.putStride_busData (s : State) (e : StrideId) (x : StrideEntry) :
    (s.putStride e x).busData = s.busData := rfl

@[simp] theorem State.putStride_lossCount (s : State) (e : StrideId) (x : StrideEntry) :
    (s.putStride e x).lossCount = s.lossCount := rfl

/-! ### The fields after writing one tag slot -/

@[simp] theorem State.putSlot_pending (s : State) (k : SlotId) (x : TagSlot) :
    (s.putSlot k x).pending = s.pending := rfl

@[simp] theorem State.putSlot_ports (s : State) (k : SlotId) (x : TagSlot) :
    (s.putSlot k x).ports = s.ports := rfl

@[simp] theorem State.putSlot_queues (s : State) (k : SlotId) (x : TagSlot) :
    (s.putSlot k x).queues = s.queues := rfl

@[simp] theorem State.putSlot_cells (s : State) (k : SlotId) (x : TagSlot) :
    (s.putSlot k x).cells = s.cells := rfl

@[simp] theorem State.putSlot_strides (s : State) (k : SlotId) (x : TagSlot) :
    (s.putSlot k x).strides = s.strides := rfl

@[simp] theorem State.putSlot_contributions (s : State) (k : SlotId) (x : TagSlot) :
    (s.putSlot k x).contributions = s.contributions := rfl

@[simp] theorem State.putSlot_hostCounts (s : State) (k : SlotId) (x : TagSlot) :
    (s.putSlot k x).hostCounts = s.hostCounts := rfl

@[simp] theorem State.putSlot_units (s : State) (k : SlotId) (x : TagSlot) :
    (s.putSlot k x).units = s.units := rfl

@[simp] theorem State.putSlot_publicationQueue (s : State) (k : SlotId) (x : TagSlot) :
    (s.putSlot k x).publicationQueue = s.publicationQueue := rfl

@[simp] theorem State.putSlot_publisher (s : State) (k : SlotId) (x : TagSlot) :
    (s.putSlot k x).publisher = s.publisher := rfl

@[simp] theorem State.putSlot_slots (s : State) (k : SlotId) (x : TagSlot) :
    (s.putSlot k x).slots = s.slots.set k x := rfl

@[simp] theorem State.putSlot_epoch (s : State) (k : SlotId) (x : TagSlot) :
    (s.putSlot k x).epoch = s.epoch := rfl

@[simp] theorem State.putSlot_rotation (s : State) (k : SlotId) (x : TagSlot) :
    (s.putSlot k x).rotation = s.rotation := rfl

@[simp] theorem State.putSlot_holdOwner (s : State) (k : SlotId) (x : TagSlot) :
    (s.putSlot k x).holdOwner = s.holdOwner := rfl

@[simp] theorem State.putSlot_grant (s : State) (k : SlotId) (x : TagSlot) :
    (s.putSlot k x).grant = s.grant := rfl

@[simp] theorem State.putSlot_memoryReady (s : State) (k : SlotId) (x : TagSlot) :
    (s.putSlot k x).memoryReady = s.memoryReady := rfl

@[simp] theorem State.putSlot_request (s : State) (k : SlotId) (x : TagSlot) :
    (s.putSlot k x).request = s.request := rfl

@[simp] theorem State.putSlot_answers (s : State) (k : SlotId) (x : TagSlot) :
    (s.putSlot k x).answers = s.answers := rfl

@[simp] theorem State.putSlot_walkReports (s : State) (k : SlotId) (x : TagSlot) :
    (s.putSlot k x).walkReports = s.walkReports := rfl

@[simp] theorem State.putSlot_publicationReports (s : State) (k : SlotId) (x : TagSlot) :
    (s.putSlot k x).publicationReports = s.publicationReports := rfl

@[simp] theorem State.putSlot_cancels (s : State) (k : SlotId) (x : TagSlot) :
    (s.putSlot k x).cancels = s.cancels := rfl

@[simp] theorem State.putSlot_deadlineTicks (s : State) (k : SlotId) (x : TagSlot) :
    (s.putSlot k x).deadlineTicks = s.deadlineTicks := rfl

@[simp] theorem State.putSlot_responseTicks (s : State) (k : SlotId) (x : TagSlot) :
    (s.putSlot k x).responseTicks = s.responseTicks := rfl

@[simp] theorem State.putSlot_tickCounter (s : State) (k : SlotId) (x : TagSlot) :
    (s.putSlot k x).tickCounter = s.tickCounter := rfl

@[simp] theorem State.putSlot_periods (s : State) (k : SlotId) (x : TagSlot) :
    (s.putSlot k x).periods = s.periods := rfl

@[simp] theorem State.putSlot_deviceReset (s : State) (k : SlotId) (x : TagSlot) :
    (s.putSlot k x).deviceReset = s.deviceReset := rfl

@[simp] theorem State.putSlot_busData (s : State) (k : SlotId) (x : TagSlot) :
    (s.putSlot k x).busData = s.busData := rfl

@[simp] theorem State.putSlot_lossCount (s : State) (k : SlotId) (x : TagSlot) :
    (s.putSlot k x).lossCount = s.lossCount := rfl

/-! ### The fields after adding a reservation -/

@[simp] theorem State.reserve_pending (s : State) (h : HostId) :
    (s.reserve h).pending = s.pending := rfl

@[simp] theorem State.reserve_ports (s : State) (h : HostId) :
    (s.reserve h).ports = s.ports := rfl

@[simp] theorem State.reserve_cells (s : State) (h : HostId) :
    (s.reserve h).cells = s.cells := rfl

@[simp] theorem State.reserve_strides (s : State) (h : HostId) :
    (s.reserve h).strides = s.strides := rfl

@[simp] theorem State.reserve_contributions (s : State) (h : HostId) :
    (s.reserve h).contributions = s.contributions := rfl

@[simp] theorem State.reserve_hostCounts (s : State) (h : HostId) :
    (s.reserve h).hostCounts = s.hostCounts := rfl

@[simp] theorem State.reserve_units (s : State) (h : HostId) :
    (s.reserve h).units = s.units := rfl

@[simp] theorem State.reserve_publicationQueue (s : State) (h : HostId) :
    (s.reserve h).publicationQueue = s.publicationQueue := rfl

@[simp] theorem State.reserve_publisher (s : State) (h : HostId) :
    (s.reserve h).publisher = s.publisher := rfl

@[simp] theorem State.reserve_slots (s : State) (h : HostId) :
    (s.reserve h).slots = s.slots := rfl

@[simp] theorem State.reserve_epoch (s : State) (h : HostId) :
    (s.reserve h).epoch = s.epoch := rfl

@[simp] theorem State.reserve_rotation (s : State) (h : HostId) :
    (s.reserve h).rotation = s.rotation := rfl

@[simp] theorem State.reserve_holdOwner (s : State) (h : HostId) :
    (s.reserve h).holdOwner = s.holdOwner := rfl

@[simp] theorem State.reserve_grant (s : State) (h : HostId) :
    (s.reserve h).grant = s.grant := rfl

@[simp] theorem State.reserve_memoryReady (s : State) (h : HostId) :
    (s.reserve h).memoryReady = s.memoryReady := rfl

@[simp] theorem State.reserve_request (s : State) (h : HostId) :
    (s.reserve h).request = s.request := rfl

@[simp] theorem State.reserve_answers (s : State) (h : HostId) :
    (s.reserve h).answers = s.answers := rfl

@[simp] theorem State.reserve_walkReports (s : State) (h : HostId) :
    (s.reserve h).walkReports = s.walkReports := rfl

@[simp] theorem State.reserve_publicationReports (s : State) (h : HostId) :
    (s.reserve h).publicationReports = s.publicationReports := rfl

@[simp] theorem State.reserve_cancels (s : State) (h : HostId) :
    (s.reserve h).cancels = s.cancels := rfl

@[simp] theorem State.reserve_deadlineTicks (s : State) (h : HostId) :
    (s.reserve h).deadlineTicks = s.deadlineTicks := rfl

@[simp] theorem State.reserve_responseTicks (s : State) (h : HostId) :
    (s.reserve h).responseTicks = s.responseTicks := rfl

@[simp] theorem State.reserve_tickCounter (s : State) (h : HostId) :
    (s.reserve h).tickCounter = s.tickCounter := rfl

@[simp] theorem State.reserve_periods (s : State) (h : HostId) :
    (s.reserve h).periods = s.periods := rfl

@[simp] theorem State.reserve_deviceReset (s : State) (h : HostId) :
    (s.reserve h).deviceReset = s.deviceReset := rfl

@[simp] theorem State.reserve_busData (s : State) (h : HostId) :
    (s.reserve h).busData = s.busData := rfl

@[simp] theorem State.reserve_lossCount (s : State) (h : HostId) :
    (s.reserve h).lossCount = s.lossCount := rfl

/-! ### The fields after inserting a contribution -/

@[simp] theorem State.enqueue_pending (s : State) (e : Contribution) :
    (s.enqueue e).pending = s.pending := rfl

@[simp] theorem State.enqueue_ports (s : State) (e : Contribution) :
    (s.enqueue e).ports = s.ports := rfl

@[simp] theorem State.enqueue_queues (s : State) (e : Contribution) :
    (s.enqueue e).queues = s.queues := rfl

@[simp] theorem State.enqueue_cells (s : State) (e : Contribution) :
    (s.enqueue e).cells = s.cells := rfl

@[simp] theorem State.enqueue_strides (s : State) (e : Contribution) :
    (s.enqueue e).strides = bindRefs e.refs s.strides := rfl

@[simp] theorem State.enqueue_contributions (s : State) (e : Contribution) :
    (s.enqueue e).contributions = insertContribution e s.contributions := rfl

@[simp] theorem State.enqueue_hostCounts (s : State) (e : Contribution) :
    (s.enqueue e).hostCounts = s.hostCounts.set e.host (s.hostCounts[e.host] + 1) := rfl

@[simp] theorem State.enqueue_units (s : State) (e : Contribution) :
    (s.enqueue e).units = s.units := rfl

@[simp] theorem State.enqueue_publicationQueue (s : State) (e : Contribution) :
    (s.enqueue e).publicationQueue = s.publicationQueue := rfl

@[simp] theorem State.enqueue_publisher (s : State) (e : Contribution) :
    (s.enqueue e).publisher = s.publisher := rfl

@[simp] theorem State.enqueue_slots (s : State) (e : Contribution) :
    (s.enqueue e).slots = s.slots := rfl

@[simp] theorem State.enqueue_epoch (s : State) (e : Contribution) :
    (s.enqueue e).epoch = s.epoch := rfl

@[simp] theorem State.enqueue_rotation (s : State) (e : Contribution) :
    (s.enqueue e).rotation = s.rotation := rfl

@[simp] theorem State.enqueue_holdOwner (s : State) (e : Contribution) :
    (s.enqueue e).holdOwner = s.holdOwner := rfl

@[simp] theorem State.enqueue_grant (s : State) (e : Contribution) :
    (s.enqueue e).grant = s.grant := rfl

@[simp] theorem State.enqueue_memoryReady (s : State) (e : Contribution) :
    (s.enqueue e).memoryReady = s.memoryReady := rfl

@[simp] theorem State.enqueue_request (s : State) (e : Contribution) :
    (s.enqueue e).request = s.request := rfl

@[simp] theorem State.enqueue_answers (s : State) (e : Contribution) :
    (s.enqueue e).answers = s.answers := rfl

@[simp] theorem State.enqueue_walkReports (s : State) (e : Contribution) :
    (s.enqueue e).walkReports = s.walkReports := rfl

@[simp] theorem State.enqueue_publicationReports (s : State) (e : Contribution) :
    (s.enqueue e).publicationReports = s.publicationReports := rfl

@[simp] theorem State.enqueue_cancels (s : State) (e : Contribution) :
    (s.enqueue e).cancels = s.cancels := rfl

@[simp] theorem State.enqueue_deadlineTicks (s : State) (e : Contribution) :
    (s.enqueue e).deadlineTicks = s.deadlineTicks := rfl

@[simp] theorem State.enqueue_responseTicks (s : State) (e : Contribution) :
    (s.enqueue e).responseTicks = s.responseTicks := rfl

@[simp] theorem State.enqueue_tickCounter (s : State) (e : Contribution) :
    (s.enqueue e).tickCounter = s.tickCounter := rfl

@[simp] theorem State.enqueue_periods (s : State) (e : Contribution) :
    (s.enqueue e).periods = s.periods := rfl

@[simp] theorem State.enqueue_deviceReset (s : State) (e : Contribution) :
    (s.enqueue e).deviceReset = s.deviceReset := rfl

@[simp] theorem State.enqueue_busData (s : State) (e : Contribution) :
    (s.enqueue e).busData = s.busData := rfl

@[simp] theorem State.enqueue_lossCount (s : State) (e : Contribution) :
    (s.enqueue e).lossCount = s.lossCount := rfl

/-! ### The fields after removing contributions -/

@[simp] theorem State.removeContributions_pending (s : State) (leaves : Contribution → Bool) :
    (s.removeContributions leaves).pending = s.pending := rfl

@[simp] theorem State.removeContributions_ports (s : State) (leaves : Contribution → Bool) :
    (s.removeContributions leaves).ports = s.ports := rfl

@[simp] theorem State.removeContributions_queues (s : State) (leaves : Contribution → Bool) :
    (s.removeContributions leaves).queues = s.queues := rfl

@[simp] theorem State.removeContributions_cells (s : State) (leaves : Contribution → Bool) :
    (s.removeContributions leaves).cells = s.cells := rfl

@[simp] theorem State.removeContributions_strides (s : State) (leaves : Contribution → Bool) :
    (s.removeContributions leaves).strides = (s.contributions.filter leaves).foldl (fun strides e => releaseRefs e.refs strides) s.strides := rfl

@[simp] theorem State.removeContributions_contributions (s : State) (leaves : Contribution → Bool) :
    (s.removeContributions leaves).contributions = s.contributions.filter (fun e => !leaves e) := rfl

@[simp] theorem State.removeContributions_hostCounts (s : State) (leaves : Contribution → Bool) :
    (s.removeContributions leaves).hostCounts = (s.contributions.filter leaves).foldl countDeparture s.hostCounts := rfl

@[simp] theorem State.removeContributions_units (s : State) (leaves : Contribution → Bool) :
    (s.removeContributions leaves).units = s.units := rfl

@[simp] theorem State.removeContributions_publicationQueue (s : State) (leaves : Contribution → Bool) :
    (s.removeContributions leaves).publicationQueue = s.publicationQueue := rfl

@[simp] theorem State.removeContributions_publisher (s : State) (leaves : Contribution → Bool) :
    (s.removeContributions leaves).publisher = s.publisher := rfl

@[simp] theorem State.removeContributions_slots (s : State) (leaves : Contribution → Bool) :
    (s.removeContributions leaves).slots = s.slots := rfl

@[simp] theorem State.removeContributions_epoch (s : State) (leaves : Contribution → Bool) :
    (s.removeContributions leaves).epoch = s.epoch := rfl

@[simp] theorem State.removeContributions_rotation (s : State) (leaves : Contribution → Bool) :
    (s.removeContributions leaves).rotation = s.rotation := rfl

@[simp] theorem State.removeContributions_holdOwner (s : State) (leaves : Contribution → Bool) :
    (s.removeContributions leaves).holdOwner = s.holdOwner := rfl

@[simp] theorem State.removeContributions_grant (s : State) (leaves : Contribution → Bool) :
    (s.removeContributions leaves).grant = s.grant := rfl

@[simp] theorem State.removeContributions_memoryReady (s : State) (leaves : Contribution → Bool) :
    (s.removeContributions leaves).memoryReady = s.memoryReady := rfl

@[simp] theorem State.removeContributions_request (s : State) (leaves : Contribution → Bool) :
    (s.removeContributions leaves).request = s.request := rfl

@[simp] theorem State.removeContributions_answers (s : State) (leaves : Contribution → Bool) :
    (s.removeContributions leaves).answers = s.answers := rfl

@[simp] theorem State.removeContributions_walkReports (s : State) (leaves : Contribution → Bool) :
    (s.removeContributions leaves).walkReports = s.walkReports := rfl

@[simp] theorem State.removeContributions_publicationReports (s : State) (leaves : Contribution → Bool) :
    (s.removeContributions leaves).publicationReports = s.publicationReports := rfl

@[simp] theorem State.removeContributions_cancels (s : State) (leaves : Contribution → Bool) :
    (s.removeContributions leaves).cancels = s.cancels := rfl

@[simp] theorem State.removeContributions_deadlineTicks (s : State) (leaves : Contribution → Bool) :
    (s.removeContributions leaves).deadlineTicks = s.deadlineTicks := rfl

@[simp] theorem State.removeContributions_responseTicks (s : State) (leaves : Contribution → Bool) :
    (s.removeContributions leaves).responseTicks = s.responseTicks := rfl

@[simp] theorem State.removeContributions_tickCounter (s : State) (leaves : Contribution → Bool) :
    (s.removeContributions leaves).tickCounter = s.tickCounter := rfl

@[simp] theorem State.removeContributions_periods (s : State) (leaves : Contribution → Bool) :
    (s.removeContributions leaves).periods = s.periods := rfl

@[simp] theorem State.removeContributions_deviceReset (s : State) (leaves : Contribution → Bool) :
    (s.removeContributions leaves).deviceReset = s.deviceReset := rfl

@[simp] theorem State.removeContributions_busData (s : State) (leaves : Contribution → Bool) :
    (s.removeContributions leaves).busData = s.busData := rfl

@[simp] theorem State.removeContributions_lossCount (s : State) (leaves : Contribution → Bool) :
    (s.removeContributions leaves).lossCount = s.lossCount := rfl

/-! ### The fields after issuing a request -/

@[simp] theorem State.issue_pending (s : State) (k : SlotId) (a : Addr) (b : BitVec 8) (wr : Bool) (d : Option DataUnit) :
    (s.issue k a b wr d).pending = s.pending := rfl

@[simp] theorem State.issue_ports (s : State) (k : SlotId) (a : Addr) (b : BitVec 8) (wr : Bool) (d : Option DataUnit) :
    (s.issue k a b wr d).ports = s.ports := rfl

@[simp] theorem State.issue_queues (s : State) (k : SlotId) (a : Addr) (b : BitVec 8) (wr : Bool) (d : Option DataUnit) :
    (s.issue k a b wr d).queues = s.queues := rfl

@[simp] theorem State.issue_cells (s : State) (k : SlotId) (a : Addr) (b : BitVec 8) (wr : Bool) (d : Option DataUnit) :
    (s.issue k a b wr d).cells = s.cells := rfl

@[simp] theorem State.issue_strides (s : State) (k : SlotId) (a : Addr) (b : BitVec 8) (wr : Bool) (d : Option DataUnit) :
    (s.issue k a b wr d).strides = s.strides := rfl

@[simp] theorem State.issue_contributions (s : State) (k : SlotId) (a : Addr) (b : BitVec 8) (wr : Bool) (d : Option DataUnit) :
    (s.issue k a b wr d).contributions = s.contributions := rfl

@[simp] theorem State.issue_hostCounts (s : State) (k : SlotId) (a : Addr) (b : BitVec 8) (wr : Bool) (d : Option DataUnit) :
    (s.issue k a b wr d).hostCounts = s.hostCounts := rfl

@[simp] theorem State.issue_units (s : State) (k : SlotId) (a : Addr) (b : BitVec 8) (wr : Bool) (d : Option DataUnit) :
    (s.issue k a b wr d).units = s.units := rfl

@[simp] theorem State.issue_publicationQueue (s : State) (k : SlotId) (a : Addr) (b : BitVec 8) (wr : Bool) (d : Option DataUnit) :
    (s.issue k a b wr d).publicationQueue = s.publicationQueue := rfl

@[simp] theorem State.issue_publisher (s : State) (k : SlotId) (a : Addr) (b : BitVec 8) (wr : Bool) (d : Option DataUnit) :
    (s.issue k a b wr d).publisher = s.publisher := rfl

@[simp] theorem State.issue_slots (s : State) (k : SlotId) (a : Addr) (b : BitVec 8) (wr : Bool) (d : Option DataUnit) :
    (s.issue k a b wr d).slots = s.slots.set k { outstanding := true, sequence := s.slots[k].sequence + 1, timer := 200 } := rfl

@[simp] theorem State.issue_epoch (s : State) (k : SlotId) (a : Addr) (b : BitVec 8) (wr : Bool) (d : Option DataUnit) :
    (s.issue k a b wr d).epoch = s.epoch := rfl

@[simp] theorem State.issue_rotation (s : State) (k : SlotId) (a : Addr) (b : BitVec 8) (wr : Bool) (d : Option DataUnit) :
    (s.issue k a b wr d).rotation = s.rotation := rfl

@[simp] theorem State.issue_holdOwner (s : State) (k : SlotId) (a : Addr) (b : BitVec 8) (wr : Bool) (d : Option DataUnit) :
    (s.issue k a b wr d).holdOwner = s.holdOwner := rfl

@[simp] theorem State.issue_grant (s : State) (k : SlotId) (a : Addr) (b : BitVec 8) (wr : Bool) (d : Option DataUnit) :
    (s.issue k a b wr d).grant = s.grant := rfl

@[simp] theorem State.issue_memoryReady (s : State) (k : SlotId) (a : Addr) (b : BitVec 8) (wr : Bool) (d : Option DataUnit) :
    (s.issue k a b wr d).memoryReady = false := rfl

@[simp] theorem State.issue_request (s : State) (k : SlotId) (a : Addr) (b : BitVec 8) (wr : Bool) (d : Option DataUnit) :
    (s.issue k a b wr d).request = some
      { address := a, byteEnables := b, write := wr, data := d
        tag := makeTag k (s.slots[k].sequence + 1) s.epoch } := rfl

@[simp] theorem State.issue_answers (s : State) (k : SlotId) (a : Addr) (b : BitVec 8) (wr : Bool) (d : Option DataUnit) :
    (s.issue k a b wr d).answers = s.answers := rfl

@[simp] theorem State.issue_walkReports (s : State) (k : SlotId) (a : Addr) (b : BitVec 8) (wr : Bool) (d : Option DataUnit) :
    (s.issue k a b wr d).walkReports = s.walkReports := rfl

@[simp] theorem State.issue_publicationReports (s : State) (k : SlotId) (a : Addr) (b : BitVec 8) (wr : Bool) (d : Option DataUnit) :
    (s.issue k a b wr d).publicationReports = s.publicationReports := rfl

@[simp] theorem State.issue_cancels (s : State) (k : SlotId) (a : Addr) (b : BitVec 8) (wr : Bool) (d : Option DataUnit) :
    (s.issue k a b wr d).cancels = s.cancels := rfl

@[simp] theorem State.issue_deadlineTicks (s : State) (k : SlotId) (a : Addr) (b : BitVec 8) (wr : Bool) (d : Option DataUnit) :
    (s.issue k a b wr d).deadlineTicks = s.deadlineTicks := rfl

@[simp] theorem State.issue_responseTicks (s : State) (k : SlotId) (a : Addr) (b : BitVec 8) (wr : Bool) (d : Option DataUnit) :
    (s.issue k a b wr d).responseTicks = s.responseTicks := rfl

@[simp] theorem State.issue_tickCounter (s : State) (k : SlotId) (a : Addr) (b : BitVec 8) (wr : Bool) (d : Option DataUnit) :
    (s.issue k a b wr d).tickCounter = s.tickCounter := rfl

@[simp] theorem State.issue_periods (s : State) (k : SlotId) (a : Addr) (b : BitVec 8) (wr : Bool) (d : Option DataUnit) :
    (s.issue k a b wr d).periods = s.periods := rfl

@[simp] theorem State.issue_deviceReset (s : State) (k : SlotId) (a : Addr) (b : BitVec 8) (wr : Bool) (d : Option DataUnit) :
    (s.issue k a b wr d).deviceReset = s.deviceReset := rfl

@[simp] theorem State.issue_busData (s : State) (k : SlotId) (a : Addr) (b : BitVec 8) (wr : Bool) (d : Option DataUnit) :
    (s.issue k a b wr d).busData = s.busData := rfl

@[simp] theorem State.issue_lossCount (s : State) (k : SlotId) (a : Addr) (b : BitVec 8) (wr : Bool) (d : Option DataUnit) :
    (s.issue k a b wr d).lossCount = s.lossCount := rfl

/-! ### The fields after answering a slot -/

@[simp] theorem State.answerSlot_pending (s : State) (k : SlotId) (a : Answer) :
    (s.answerSlot k a).pending = s.pending := rfl

@[simp] theorem State.answerSlot_ports (s : State) (k : SlotId) (a : Answer) :
    (s.answerSlot k a).ports = s.ports := rfl

@[simp] theorem State.answerSlot_queues (s : State) (k : SlotId) (a : Answer) :
    (s.answerSlot k a).queues = s.queues := rfl

@[simp] theorem State.answerSlot_cells (s : State) (k : SlotId) (a : Answer) :
    (s.answerSlot k a).cells = s.cells := rfl

@[simp] theorem State.answerSlot_strides (s : State) (k : SlotId) (a : Answer) :
    (s.answerSlot k a).strides = s.strides := rfl

@[simp] theorem State.answerSlot_contributions (s : State) (k : SlotId) (a : Answer) :
    (s.answerSlot k a).contributions = s.contributions := rfl

@[simp] theorem State.answerSlot_hostCounts (s : State) (k : SlotId) (a : Answer) :
    (s.answerSlot k a).hostCounts = s.hostCounts := rfl

@[simp] theorem State.answerSlot_units (s : State) (k : SlotId) (a : Answer) :
    (s.answerSlot k a).units = s.units := rfl

@[simp] theorem State.answerSlot_publicationQueue (s : State) (k : SlotId) (a : Answer) :
    (s.answerSlot k a).publicationQueue = s.publicationQueue := rfl

@[simp] theorem State.answerSlot_publisher (s : State) (k : SlotId) (a : Answer) :
    (s.answerSlot k a).publisher = s.publisher := rfl

@[simp] theorem State.answerSlot_slots (s : State) (k : SlotId) (a : Answer) :
    (s.answerSlot k a).slots = s.slots.set k { s.slots[k] with outstanding := false, timer := 0 } := rfl

@[simp] theorem State.answerSlot_epoch (s : State) (k : SlotId) (a : Answer) :
    (s.answerSlot k a).epoch = s.epoch := rfl

@[simp] theorem State.answerSlot_rotation (s : State) (k : SlotId) (a : Answer) :
    (s.answerSlot k a).rotation = s.rotation := rfl

@[simp] theorem State.answerSlot_holdOwner (s : State) (k : SlotId) (a : Answer) :
    (s.answerSlot k a).holdOwner = s.holdOwner := rfl

@[simp] theorem State.answerSlot_grant (s : State) (k : SlotId) (a : Answer) :
    (s.answerSlot k a).grant = s.grant := rfl

@[simp] theorem State.answerSlot_memoryReady (s : State) (k : SlotId) (a : Answer) :
    (s.answerSlot k a).memoryReady = s.memoryReady := rfl

@[simp] theorem State.answerSlot_request (s : State) (k : SlotId) (a : Answer) :
    (s.answerSlot k a).request = s.request := rfl

@[simp] theorem State.answerSlot_answers (s : State) (k : SlotId) (a : Answer) :
    (s.answerSlot k a).answers = s.answers.set k (some a) := rfl

@[simp] theorem State.answerSlot_walkReports (s : State) (k : SlotId) (a : Answer) :
    (s.answerSlot k a).walkReports = s.walkReports := rfl

@[simp] theorem State.answerSlot_publicationReports (s : State) (k : SlotId) (a : Answer) :
    (s.answerSlot k a).publicationReports = s.publicationReports := rfl

@[simp] theorem State.answerSlot_cancels (s : State) (k : SlotId) (a : Answer) :
    (s.answerSlot k a).cancels = s.cancels := rfl

@[simp] theorem State.answerSlot_deadlineTicks (s : State) (k : SlotId) (a : Answer) :
    (s.answerSlot k a).deadlineTicks = s.deadlineTicks := rfl

@[simp] theorem State.answerSlot_responseTicks (s : State) (k : SlotId) (a : Answer) :
    (s.answerSlot k a).responseTicks = s.responseTicks := rfl

@[simp] theorem State.answerSlot_tickCounter (s : State) (k : SlotId) (a : Answer) :
    (s.answerSlot k a).tickCounter = s.tickCounter := rfl

@[simp] theorem State.answerSlot_periods (s : State) (k : SlotId) (a : Answer) :
    (s.answerSlot k a).periods = s.periods := rfl

@[simp] theorem State.answerSlot_deviceReset (s : State) (k : SlotId) (a : Answer) :
    (s.answerSlot k a).deviceReset = s.deviceReset := rfl

@[simp] theorem State.answerSlot_busData (s : State) (k : SlotId) (a : Answer) :
    (s.answerSlot k a).busData = s.busData := rfl

@[simp] theorem State.answerSlot_lossCount (s : State) (k : SlotId) (a : Answer) :
    (s.answerSlot k a).lossCount = s.lossCount := rfl

/-! ### Reading an updated table -/

theorem State.putPort_read (s : State) (h g : HostId) (p : HostPort) :
    (s.putPort h p).ports[g] = if g = h then p else s.ports[g] := by
  simp [Vector.getElem_set, Fin.ext_iff, eq_comm]

theorem State.putCell_read (s : State) (c g : CellId) (x : Cell) :
    (s.putCell c x).cells[g] = if g = c then x else s.cells[g] := by
  simp [Vector.getElem_set, Fin.ext_iff, eq_comm]

theorem State.putUnit_read (s : State) (w g : UnitId) (u : WalkUnit) :
    (s.putUnit w u).units[g] = if g = w then u else s.units[g] := by
  simp [Vector.getElem_set, Fin.ext_iff, eq_comm]

theorem State.putStride_read (s : State) (e g : StrideId) (x : StrideEntry) :
    (s.putStride e x).strides[g] = if g = e then x else s.strides[g] := by
  simp [Vector.getElem_set, Fin.ext_iff, eq_comm]

theorem State.putSlot_read (s : State) (k g : SlotId) (x : TagSlot) :
    (s.putSlot k x).slots[g] = if g = k then x else s.slots[g] := by
  simp [Vector.getElem_set, Fin.ext_iff, eq_comm]

theorem State.putQueue_read (s : State) (h g : HostId) (q : CompletionQueue) :
    (s.putQueue h q).queues[g] = if g = h then { q with line := lineLevel q s.ports[h] } else s.queues[g] := by
  simp [Vector.getElem_set, Fin.ext_iff, eq_comm]

theorem State.putRound_read (s : State) (c d : CellId) (r : Round) :
    (s.putRound c r).cells[d] =
      if d = c then { number := s.cells[c].number, round := some r } else s.cells[d] := by
  simp [Vector.getElem_set, Fin.ext_iff, eq_comm]

end Sys2Proof.Machine
end

