-- ==== Sys2Proof/Laws/Ops.lean ====
section
/-! SUPPORT. One lemma for each shared operation that says all it does, for citing in place of unfolding. -/

namespace Sys2Proof.Machine

set_option Elab.async false

open Sys2Proof.Safety

/-! ### Completion queues -/

/-- The level of the notification line, in the words of R162. -/
theorem lineLevel_eq (q : CompletionQueue) (p : HostPort) :
    lineLevel q p = ((decide (q.entries ≠ []) && p.completionEnable) || (decide (q.latch ≠ 0) && p.errorEnable)) := by
  cases hq : q.entries <;> simp [lineLevel, hq]

/-- Writing a queue writes it with its line. -/
theorem putQueue_eq (s : State) (h : HostId) (q : CompletionQueue) :
    s.putQueue h q = { s with queues := s.queues.set h (withLine q s.ports[h]) } := by
  simp only [State.putQueue, withLine, lineLevel_eq]

/-- Adding a reservation. -/
theorem reserve_eq (s : State) (h : HostId) :
    s.reserve h =
      { s with
        queues := s.queues.set h
          (withLine { s.queues[h] with reservations := s.queues[h].reservations + 1 } s.ports[h]) } :=
  putQueue_eq s h _

/-- An entry that finds a reservation is entered at the tail. -/
theorem enter_eq (s : State) (h : HostId) (e : Entry) (hr : s.queues[h].reservations ≠ 0) :
    s.enter h e =
      { s with
        queues := s.queues.set h
          (withLine
            { s.queues[h] with
              reservations := s.queues[h].reservations - 1
              entries := s.queues[h].entries ++ [e]
              latch := s.queues[h].latch ||| entryLatch e }
            s.ports[h]) } := by
  rw [State.enter, if_neg hr, putQueue_eq]

/-- An entry that finds no reservation changes nothing (R154). -/
theorem enter_none (s : State) (h : HostId) (e : Entry) (hr : s.queues[h].reservations = 0) : s.enter h e = s :=
  if_pos hr

/-! ### Stride references -/

/-- Changing one count reads as that count changed and every other entry the same. -/
theorem adjustCount_get (f : Nat → Nat) (strides : Vector StrideEntry 16) (e x : StrideId) :
    (adjustCount f strides e)[x] = if e = x then { strides[x] with count := f strides[x].count } else strides[x] := by
  rcases e with ⟨e, he⟩
  rcases x with ⟨x, hx⟩
  by_cases h : e = x
  · subst h
    simp [adjustCount]
  · simp [adjustCount, h]

/-- Binding adds to each count the number of its namings (R88). -/
theorem bindRefs_get (refs : List StrideId) (strides : Vector StrideEntry 16) (x : StrideId) :
    (bindRefs refs strides)[x] = { strides[x] with count := strides[x].count + refs.count x } := by
  induction refs generalizing strides with
  | nil => rfl
  | cons e rest ih =>
    rw [show bindRefs (e :: rest) strides = bindRefs rest (adjustCount (· + 1) strides e) from rfl, ih,
      adjustCount_get, List.count_cons]
    by_cases h : e = x <;> simp [h]
    omega

/-- Releasing subtracts from each count the number of its namings (R89). -/
theorem releaseRefs_get (refs : List StrideId) (strides : Vector StrideEntry 16) (x : StrideId) :
    (releaseRefs refs strides)[x] = { strides[x] with count := strides[x].count - refs.count x } := by
  induction refs generalizing strides with
  | nil => rfl
  | cons e rest ih =>
    rw [show releaseRefs (e :: rest) strides = releaseRefs rest (adjustCount (· - 1) strides e) from rfl, ih,
      adjustCount_get, List.count_cons]
    by_cases h : e = x <;> simp [h]
    omega

/-! ### The Pending Queue -/

/-- An insertion splits the list: everything before is of equal or higher priority, and the first entry after is of
lower priority (R95). -/
theorem insertContribution_split (e : Contribution) (l : List Contribution) :
    ∃ front back, l = front ++ back ∧ insertContribution e l = front ++ e :: back
      ∧ (∀ x ∈ front, e.priority ≤ x.priority) ∧ ∀ x rest, back = x :: rest → x.priority < e.priority := by
  induction l with
  | nil => exact ⟨[], [], rfl, rfl, by simp, by simp⟩
  | cons y rest ih =>
    by_cases h : e.priority ≤ y.priority
    · obtain ⟨front, back, hl, hi, hf, hb⟩ := ih
      refine ⟨y :: front, back, by rw [hl]; rfl, by rw [insertContribution, if_pos h, hi]; rfl, ?_, hb⟩
      intro x hx
      rcases List.mem_cons.mp hx with rfl | hx
      · exact h
      · exact hf x hx
    · refine ⟨[], y :: rest, rfl, by rw [insertContribution, if_neg h]; rfl, by simp, ?_⟩
      rintro x tail ⟨rfl, rfl⟩
      omega

/-- Releases over a list of entries subtract the sum of their namings. -/
theorem releaseAll_get (l : List Contribution) (strides : Vector StrideEntry 16) (x : StrideId) :
    (l.foldl (fun strides e => releaseRefs e.refs strides) strides)[x] =
      { strides[x] with count := strides[x].count - (l.map (fun e => e.refs.count x)).sum } := by
  induction l generalizing strides with
  | nil => rfl
  | cons e rest ih =>
    rw [List.foldl_cons, ih, releaseRefs_get, List.map_cons, List.sum_cons, Nat.sub_sub]

/-- Departures over a list of entries subtract each host's number of them. -/
theorem countDepartures_get (l : List Contribution) (counts : Vector Nat 4) (g : HostId) :
    (l.foldl countDeparture counts)[g] = counts[g] - l.countP (fun e => decide (e.host = g)) := by
  induction l generalizing counts with
  | nil => rfl
  | cons e rest ih =>
    rw [List.foldl_cons, ih, List.countP_cons]
    rcases hh : e.host with ⟨n, hn⟩
    rcases g with ⟨m, hm⟩
    by_cases h : n = m
    · subst h
      simp [countDeparture, hh]
      omega
    · simp [countDeparture, hh, h]

/-- What a removal takes out of the queue, the counts and the Stride Table (R96). -/
theorem removeContributions_left (s : State) (leaves : Contribution → Bool) :
    entriesLeft leaves s (s.removeContributions leaves) := by
  refine ⟨rfl, fun g => ?_, fun x => releaseAll_get _ _ x⟩
  show ((s.contributions.filter leaves).foldl countDeparture s.hostCounts)[g] = _
  rw [countDepartures_get, List.countP_filter]
  congr 2
  funext e
  exact Bool.and_comm _ _

/-! ### Rounds -/

/-- What settling one host does to a round. -/
theorem settleHost_spec (status : ContributionStatus) (r : Round) (h : HostId) :
    settleHost status r h = { r with
        arrived := (settleHost status r h).arrived, statuses := (settleHost status r h).statuses }
      ∧ ∀ g : HostId,
        if g = h ∧ r.statuses[g] = some .pending ∧ r.inFlightHost ≠ some g then
          member (settleHost status r h).arrived g = true ∧ (settleHost status r h).statuses[g] = some status
        else
          member (settleHost status r h).arrived g = member r.arrived g
            ∧ (settleHost status r h).statuses[g] = r.statuses[g] := by
  unfold settleHost
  split
  · rename_i hp
    refine ⟨rfl, fun g => ?_⟩
    by_cases hg : g = h
    · subst hg
      rw [if_pos ⟨rfl, hp⟩]
      simp [Round.arrive]
    · rw [if_neg (fun hh => hg hh.1)]
      have hv : h.val ≠ g.val := fun hh => hg (Fin.ext hh.symm)
      simp [Round.arrive, hg, hv]
  · rename_i hp
    refine ⟨rfl, fun g => ?_⟩
    rw [if_neg]
    · exact ⟨rfl, rfl⟩
    · rintro ⟨rfl, h1⟩
      exact hp h1

/-- The pending hosts but the in-flight one join arrived with `status`, and nothing else of the round changes (R48, R50). -/
theorem settlePending_spec (r : Round) (status : ContributionStatus) :
    pendingSettled r (r.settlePending status) r.inFlightHost status := by
  obtain ⟨a0, b0⟩ := settleHost_spec status r 0
  generalize h0 : settleHost status r 0 = r0 at a0 b0
  obtain ⟨a1, b1⟩ := settleHost_spec status r0 1
  generalize h1 : settleHost status r0 1 = r1 at a1 b1
  obtain ⟨a2, b2⟩ := settleHost_spec status r1 2
  generalize h2 : settleHost status r1 2 = r2 at a2 b2
  obtain ⟨a3, b3⟩ := settleHost_spec status r2 3
  generalize h3 : settleHost status r2 3 = r3 at a3 b3
  have hr : r.settlePending status = r3 := by
    simp only [Round.settlePending, hostOrder, List.foldl_cons, List.foldl_nil, h0, h1, h2, h3]
  have i0 : r0.inFlightHost = r.inFlightHost := by rw [a0]
  have i1 : r1.inFlightHost = r.inFlightHost := by rw [a1, ← i0]
  have i2 : r2.inFlightHost = r.inFlightHost := by rw [a2, ← i1]
  rw [hr]
  refine ⟨?_, fun g => ?_⟩
  · rw [a3, a2, a1, a0]
  · have c0 := b0 g
    have c1 := b1 g
    have c2 := b2 g
    have c3 := b3 g
    rw [i0] at c1
    rw [i1] at c2
    rw [i2] at c3
    have hg : ∀ x : HostId, x = 0 ∨ x = 1 ∨ x = 2 ∨ x = 3 := by decide
    rcases hg g with rfl | rfl | rfl | rfl
    · simp only [show ((0 : HostId) = 1) = False by decide, show ((0 : HostId) = 2) = False by decide,
        show ((0 : HostId) = 3) = False by decide, false_and, if_false, true_and] at c0 c1 c2 c3
      rw [c3.1, c3.2, c2.1, c2.2, c1.1, c1.2]
      exact c0
    · simp only [show ((1 : HostId) = 0) = False by decide, show ((1 : HostId) = 2) = False by decide,
        show ((1 : HostId) = 3) = False by decide, false_and, if_false, true_and] at c0 c1 c2 c3
      rw [c3.1, c3.2, c2.1, c2.2, ← c0.1, ← c0.2]
      exact c1
    · simp only [show ((2 : HostId) = 0) = False by decide, show ((2 : HostId) = 1) = False by decide,
        show ((2 : HostId) = 3) = False by decide, false_and, if_false, true_and] at c0 c1 c2 c3
      rw [c3.1, c3.2, ← c0.1, ← c0.2, ← c1.1, ← c1.2]
      exact c2
    · simp only [show ((3 : HostId) = 0) = False by decide, show ((3 : HostId) = 1) = False by decide,
        show ((3 : HostId) = 2) = False by decide, false_and, if_false, true_and] at c0 c1 c2 c3
      rw [← c0.1, ← c0.2, ← c1.1, ← c1.2, ← c2.1, ← c2.2]
      exact c3

end Sys2Proof.Machine
end

