-- ==== Sys2Proof/Laws/Rounds.lean ====
section
/-! SUPPORT. What the shared operations of a round's life come to: closing early, draining, the hand-off, the taking of a
command by its owner. -/

namespace Sys2Proof.Machine

set_option Elab.async false

open Sys2Proof.Safety

/-! ### Commands and decisions -/

/-- An owner takes the command that has been handed over, and all that this makes possible is made. -/
theorem ownerTakes_handed {s : State} {h : HostId} {code : Nat} {words : List Word}
    (hh : handedOver s h code words) (act : List Word → State) :
    ownerTakes s h code act = .next (act words).settle := by
  simp only [ownerTakes, handedCommand, hh.1, commandCode_div, hh.2, if_pos, completed]

/-- Returning a decision writes the port alone. -/
theorem returnDecision_eq (s : State) (h : HostId) (words : List Word) (code : StatusCode) (value : Word) :
    s.returnDecision h words code value = decisionOnly s h words code value := rfl

/-- A refused command changes nothing but the decision, whose value is the cell's round number (R25). -/
theorem refuseCommand_eq (s : State) (h : HostId) (words : List Word) (code : StatusCode) :
    s.refuseCommand h words code = decisionOnly s h words code (s.cells[commandCell words].number.setWidth 32) := by
  rw [State.refuseCommand, returnDecision_eq, roundValue_eq]

/-! ### Ports -/

/-- A port that is not delivering holds no write. -/
theorem busHeld_false {p : HostPort} (h : ∀ words stage, p.framing ≠ .delivering words stage) : busHeld p = false := by
  unfold busHeld
  split <;> simp_all

/-- A port reset, in the words of R148, R149, R150 and R163. -/
theorem resetPort_eq (s : State) (h : HostId) : s.resetPort h = portWasReset s h := by
  simp only [State.resetPort, State.putPort, putQueue_eq, portWasReset]
  congr 1
  · congr 1
    simp only [HostPort.resetRecord, HostPort.sendNotices, afterPortReset]
    split <;> split <;> first | rfl | omega
  · congr 1
    simp [withLine, clearQueue, HostPort.resetRecord, HostPort.sendNotices]
    split <;> simp

/-! ### Closing a round -/

/-- The flags of a round that did not complete. -/
theorem roundFlags_early {outcome : Option RoundOutcome} (h : outcome ≠ some .complete) (t : Tallies) :
    roundFlags outcome t = earlyFlags t := by
  simp [roundFlags, earlyFlags, h]

/-- A busy Publisher takes no cell. -/
theorem takeHead_busy {s : State} (h : s.publisher ≠ none) : s.takeHead = s := by
  unfold State.takeHead
  split
  · rename_i hp _
    exact absurd hp h
  · rfl

/-- An idle Publisher with an empty queue takes no cell. -/
theorem takeHead_empty {s : State} (h : s.publicationQueue = []) : s.takeHead = s := by
  unfold State.takeHead
  split
  · rename_i hq
    rw [h] at hq
    cases hq
  · rfl

/-- An idle Publisher takes the head of its queue (R127). -/
theorem takeHead_takes {s : State} {c : CellId} {rest : List CellId} (h : s.publisher = none)
    (hq : s.publicationQueue = c :: rest) :
    s.takeHead = { s with publicationQueue := rest, publisher := composeRecord c s.cells[c] } := by
  simp only [State.takeHead, h, hq]

/-- Writing the record of a cell that is not FREE. -/
theorem putRound_eq (s : State) (c : CellId) (r : Round) :
    s.putRound c r = { s with cells := s.cells.set c { number := s.cells[c].number, round := some r } } := rfl

/-! ### Notices, disposition and hand-off -/

/-- A round's notice, in the words of `noticesOf`. -/
theorem noticesOf_eq (c : CellId) (number : RoundNumber) (r : Round) (h : HostId) :
    noticesOf c number r h =
      (if member r.contributionNotices h then [roundNotice c number r (.contributionEnd r.statuses[h])] else [])
        ++ if member r.waitNotices h then [roundNotice c number r .waitEnd] else [] := by
  unfold noticesOf roundNotice resultBits
  cases r.result.bind (·.value) <;> cases r.settings.width <;> rfl

/-- The queue after an entry that may find no reservation. -/
def queueAfter (p : HostPort) (q : CompletionQueue) (e : Entry) : CompletionQueue :=
  if q.reservations = 0 then q
  else
    withLine { q with reservations := q.reservations - 1, entries := q.entries ++ [e], latch := q.latch ||| entryLatch e } p

/-- An entry changes its host's queue alone. -/
theorem enter_queues (s : State) (h : HostId) (e : Entry) :
    s.enter h e = { s with queues := s.queues.set h (queueAfter s.ports[h] s.queues[h] e) } := by
  unfold queueAfter
  split
  · rename_i hr
    rw [enter_none s h e hr]
    simp
  · rename_i hr
    exact enter_eq s h e hr

/-- The queue of a host after its notices. -/
def queueNoticed (c : CellId) (number : RoundNumber) (r : Round) (h : HostId) (p : HostPort) (q : CompletionQueue) :
    CompletionQueue :=
  (noticesOf c number r h).foldl (queueAfter p) q

/-- The notices of one host change its queue alone. -/
theorem noticeHost_eq (c : CellId) (number : RoundNumber) (r : Round) (s : State) (h : HostId) :
    State.noticeHost c number r s h =
      { s with queues := s.queues.set h (queueNoticed c number r h s.ports[h] s.queues[h]) } := by
  unfold State.noticeHost queueNoticed
  rw [noticesOf_eq]
  cases member r.contributionNotices h <;> cases member r.waitNotices h <;> simp [enter_queues]

/-- The kinds a notice adds to the error latch, in the bits of section 10.6 (R160). -/
theorem latch_kindsGained (outcome : Option RoundOutcome) (publication : Option PublicationStatus) :
    outcomeLatch outcome ||| publicationLatch publication = kindsGained outcome publication := by
  rcases outcome with _ | outcome <;> rcases publication with _ | publication <;> try cases outcome
  all_goals rfl

/-- A queue whose line follows, after its host's notices (R154, R160). -/
theorem queueNoticed_eq (c : CellId) (number : RoundNumber) (r : Round) (h : HostId) (p : HostPort)
    (q : CompletionQueue) (hq : q = withLine q p) :
    let posted := (noticesOf c number r h).take q.reservations
    queueNoticed c number r h p q =
      withLine
        { q with
          entries := q.entries ++ posted
          reservations := q.reservations - posted.length
          latch := if posted = [] then q.latch else q.latch ||| kindsGained r.outcome r.publication }
        p := by
  intro posted
  have hl : ∀ kind, entryLatch (roundNotice c number r kind) = kindsGained r.outcome r.publication :=
    fun _ => latch_kindsGained _ _
  have twice : ∀ a b : LatchSet, a ||| b ||| b = a ||| b := by decide +kernel
  obtain ⟨entries, reservations, cursor, latch, line⟩ := q
  simp only [posted, queueNoticed, noticesOf_eq]
  cases member r.contributionNotices h <;> cases member r.waitNotices h
  · simp only [Bool.false_eq_true, if_false, List.append_nil, List.foldl_nil, List.take_nil, List.length_nil, Nat.sub_zero,
      if_true]
    exact hq
  all_goals
    match reservations with
    | 0 =>
      simp only [queueAfter, if_true, List.foldl_cons, List.foldl_nil, List.nil_append, List.append_nil, List.cons_append,
        Bool.false_eq_true, if_false, List.take_zero, List.length_nil, Nat.sub_zero]
      exact hq
    | 1 => simp [queueAfter, hl, withLine]
    | n + 2 =>
      simp [queueAfter, hl, withLine, BitVec.or_assoc]
      try simp only [← BitVec.or_assoc, twice]

/-- The notices of a round change the completion queues alone, each by its own host's notices. -/
theorem postNotices_spec (s : State) (c : CellId) (number : RoundNumber) (r : Round) :
    s.postNotices c number r = { s with queues := (s.postNotices c number r).queues }
      ∧ ∀ g : HostId, (s.postNotices c number r).queues[g] = queueNoticed c number r g s.ports[g] s.queues[g] := by
  have hg : ∀ x : HostId, x = 0 ∨ x = 1 ∨ x = 2 ∨ x = 3 := by decide
  unfold State.postNotices hostOrder
  simp only [List.foldl_cons, List.foldl_nil, noticeHost_eq]
  refine ⟨trivial, fun g => ?_⟩
  rcases hg g with rfl | rfl | rfl | rfl <;> simp

/-- The notices of a round, in the words of R40, R154 and R160. -/
theorem postNotices_posted (s : State) (c : CellId) (number : RoundNumber) (r : Round) (hl : LineLaw s) :
    noticesPosted s (s.postNotices c number r) c number r := by
  intro g posted
  rw [(postNotices_spec s c number r).2 g]
  refine queueNoticed_eq c number r g _ _ ?_
  have h := hl g
  rw [lineLevel_eq] at h
  simp only [withLine, ← h]

/-- The disposition writes the cell alone (R41 to R44). -/
theorem dispose_eq (s : State) (c : CellId) (r : Round) :
    s.dispose c r = { s with cells := s.cells.set c (disposed s.cells[c].number r) } := by
  unfold State.dispose disposed
  split
  · rfl
  · rename_i hf
    split
    · rename_i hr
      have h1 : r.final = false := by simpa using hf
      simp only [State.enterCollecting, State.putCell, freshRound, newRound, initialAccumulator, h1, hr]
      cases r.settings.combine.operation <;> rfl
    · rfl

/-- Notices and disposition change the completion queues and the cell alone (R40, R41). -/
theorem finishRound_eq (s : State) (c : CellId) (r : Round) :
    s.finishRound c r =
      { s with
        cells := s.cells.set c (disposed s.cells[c].number r)
        queues := (s.postNotices c s.cells[c].number r).queues } := by
  rw [State.finishRound, dispose_eq, (postNotices_spec s c s.cells[c].number r).1]

/-- The hand-off of a round, whole (R38, R127). -/
theorem handOn_spec (s : State) (c : CellId) (r : Round) : handedOn s (s.handOn c r) c r := by
  refine ⟨fun hd => ?_, fun hd => ?_⟩
  · have he : s.handOn c r =
        State.takeHead
          { s with
            cells := s.cells.set c { number := s.cells[c].number, round := some { r with phase := .publishing } }
            publicationQueue := s.publicationQueue ++ [c] } := by
      unfold State.handOn
      split
      · rfl
      · rename_i hn
        exact absurd hn hd
    refine ⟨?_, fun hp => ?_, fun hp d rest hq => ?_⟩
    · rw [he]
      unfold State.takeHead
      split <;> rfl
    · rw [he, takeHead_busy (by exact hp)]
      exact ⟨rfl, rfl⟩
    · rw [he, takeHead_takes (by exact hp) (by exact hq)]
      exact ⟨rfl, rfl⟩
  · have he : s.handOn c r = s.finishRound c { r with publication := some .notWritten } := by
      unfold State.handOn
      rw [hd]
    rw [he, finishRound_eq]
    exact ⟨rfl, fun hl => postNotices_posted s c _ _ hl⟩

/-- Closing a round early (R49). -/
theorem closeEarly_spec (s : State) (c : CellId) (r : Round) (ho : r.outcome ≠ some .complete) :
    handedOn s (s.closeEarly c r) c (closedEarly r) := by
  rw [State.closeEarly, roundFlags_early ho]
  exact handOn_spec s c _

/-- With a walk in flight a round that ends early drains, and a cancel is sent (R48, R58). -/
theorem drainOrClose_drains {s : State} {r : Round} {w : UnitId} (c : CellId) (hw : r.walkInFlight = some w) :
    s.drainOrClose c r =
      { s with
        cells := s.cells.set c { number := s.cells[c].number, round := some { r with phase := .draining } }
        cancels := s.cancels ++ [{ unit := w, cell := c, round := s.cells[c].number }] } := by
  simp only [State.drainOrClose, hw, putRound_eq]

/-- With no walk in flight it closes. -/
theorem drainOrClose_closes {s : State} {r : Round} (c : CellId) (hw : r.walkInFlight = none) :
    s.drainOrClose c r = s.closeEarly c r := by
  simp only [State.drainOrClose, hw]

/-- Settling the pending hosts changes only arrived and the statuses. -/
theorem settlePending_eq (r : Round) (status : ContributionStatus) :
    r.settlePending status =
      { r with arrived := (r.settlePending status).arrived, statuses := (r.settlePending status).statuses } :=
  (settlePending_spec r status).1

/-- The early end of a round in COLLECTING with a walk in flight (R48). -/
theorem earlyEnd_drains {s : State} {r : Round} {w : UnitId} (c : CellId) (cause : RoundOutcome)
    (hp : r.phase = .collecting) (hw : r.walkInFlight = some w) :
    let ended := ({ r with outcome := some cause, deadline := 0 } : Round).settlePending .dropped
    s.earlyEnd c r cause =
      { s.removeCell c with
        cells := s.cells.set c { number := s.cells[c].number, round := some { ended with phase := .draining } }
        cancels := s.cancels ++ [{ unit := w, cell := c, round := s.cells[c].number }] } := by
  intro ended
  have ho : earlyOutcome r cause = some cause := by simp [earlyOutcome, hp]
  rw [State.earlyEnd, if_pos hp, ho, drainOrClose_drains c (w := w)]
  · rfl
  · rw [settlePending_eq]
    exact hw

/-- The early end of a round in COLLECTING with no walk in flight (R48, R49). -/
theorem earlyEnd_closes {s : State} {r : Round} (c : CellId) (cause : RoundOutcome) (hp : r.phase = .collecting)
    (ho : cause ≠ .complete) (hw : r.walkInFlight = none) :
    handedOn (s.removeCell c) (s.earlyEnd c r cause) c
      (closedEarly (({ r with outcome := some cause, deadline := 0 } : Round).settlePending .dropped)) := by
  have hc : earlyOutcome r cause = some cause := by simp [earlyOutcome, hp]
  rw [State.earlyEnd, if_pos hp, hc, drainOrClose_closes]
  · refine closeEarly_spec _ c _ ?_
    rw [settlePending_eq]
    simpa using ho
  · rw [settlePending_eq]
    exact hw

/-- The early end of a round in ABSORBING, its outcome FAULTED kept (R47, R54). -/
theorem earlyEnd_absorbing {s : State} {r : Round} (c : CellId) (cause : RoundOutcome) (hp : r.phase = .absorbing)
    (ho : r.outcome = some .faulted) : handedOn s (s.earlyEnd c r cause) c (closedEarly r) := by
  rw [State.earlyEnd, if_neg (by simp [hp])]
  simp only [earlyOutcome, hp, if_true]
  exact closeEarly_spec s c { r with outcome := r.outcome, deadline := 0 } (by simp [ho])

/-- Everything a hand-off leaves alone: it writes its own cell, the completion queues and the Publisher's side. -/
theorem handOn_frame (s : State) (c : CellId) (r : Round) :
    s.handOn c r =
      { s with
        cells := s.cells.set c (cellHandedOn s.cells[c].number r)
        queues := (s.handOn c r).queues
        publisher := (s.handOn c r).publisher
        publicationQueue := (s.handOn c r).publicationQueue } := by
  have h := handOn_spec s c r
  by_cases hd : r.destination = none
  · have hc : cellHandedOn s.cells[c].number r = disposed s.cells[c].number { r with publication := some .notWritten } := by
      simp [cellHandedOn, hd]
    rw [hc, (h.2 hd).1]
  · have hc : cellHandedOn s.cells[c].number r =
        { number := s.cells[c].number, round := some { r with phase := .publishing } } := by
      simp [cellHandedOn, hd]
    rw [hc, (h.1 hd).1]

/-- Everything an early end leaves alone, and the one cell it writes. -/
theorem earlyEnd_frame (s : State) (c : CellId) (r : Round) (cause : RoundOutcome) :
    ∃ cell, s.earlyEnd c r cause =
      { s with
        cells := s.cells.set c cell
        contributions := (s.earlyEnd c r cause).contributions
        hostCounts := (s.earlyEnd c r cause).hostCounts
        strides := (s.earlyEnd c r cause).strides
        cancels := (s.earlyEnd c r cause).cancels
        queues := (s.earlyEnd c r cause).queues
        publisher := (s.earlyEnd c r cause).publisher
        publicationQueue := (s.earlyEnd c r cause).publicationQueue } := by
  by_cases hp : r.phase = .collecting
  · cases hw : r.walkInFlight with
    | some w =>
      refine
        ⟨{ number := s.cells[c].number
           round := some
            { ({ r with outcome := some cause, deadline := 0 } : Round).settlePending .dropped with phase := .draining } },
          ?_⟩
      rw [earlyEnd_drains c cause hp hw]
      rfl
    | none =>
      have he : ∃ q : Round, s.earlyEnd c r cause = (s.removeCell c).handOn c q := by
        rw [State.earlyEnd, if_pos hp, drainOrClose_closes c (by rw [settlePending_eq]; exact hw)]
        exact ⟨_, rfl⟩
      obtain ⟨q, he⟩ := he
      refine ⟨cellHandedOn s.cells[c].number q, ?_⟩
      rw [he, handOn_frame]
      rfl
  · have he : ∃ q : Round, s.earlyEnd c r cause = s.handOn c q := by
      rw [State.earlyEnd, if_neg hp]
      exact ⟨_, rfl⟩
    obtain ⟨q, he⟩ := he
    refine ⟨cellHandedOn s.cells[c].number q, ?_⟩
    rw [he, handOn_frame]

/-! ### The cells whose rounds a loss ends -/

/-- Inserting by key adds the one cell. -/
theorem insertByKey_perm (key : CellId → Nat) (c : CellId) (l : List CellId) :
    (insertByKey key c l).Perm (c :: l) := by
  induction l with
  | nil => exact List.Perm.refl _
  | cons d rest ih =>
    unfold insertByKey
    split
    · exact (List.Perm.cons d ih).trans (List.Perm.swap c d rest)
    · exact List.Perm.refl _

/-- Sorting by key keeps the cells. -/
theorem sortByKey_perm (key : CellId → Nat) (l : List CellId) : (sortByKey key l).Perm l := by
  have h : ∀ l acc : List CellId, (l.foldl (fun sorted c => insertByKey key c sorted) acc).Perm (l ++ acc) := by
    intro l
    induction l with
    | nil => exact fun acc => List.Perm.refl _
    | cons c rest ih =>
      exact fun acc => (ih _).trans (((insertByKey_perm key c acc).append_left rest).trans List.perm_middle)
  have := h l []
  rwa [List.append_nil] at this

/-- Every cell is in `cellOrder`, once. -/
theorem cellOrder_all : (∀ c : CellId, c ∈ cellOrder) ∧ cellOrder.Nodup := by decide

/-- Whatever the free order, the cells of a loss are those whose rounds it ends, each once (R64). -/
theorem lossCells_spec (s : State) (h : HostId) :
    (∀ c, c ∈ lossCells s h ↔ lossEnds h s.cells[c] = true) ∧ (lossCells s h).Nodup := by
  have hp : (lossCells s h).Perm (cellOrder.filter (fun c => lossEnds h s.cells[c])) := sortByKey_perm _ _
  refine ⟨fun c => ?_, hp.nodup_iff.2 (cellOrder_all.2.filter _)⟩
  rw [hp.mem_iff, List.mem_filter]
  exact ⟨fun hc => hc.2, fun hc => ⟨cellOrder_all.1 c, hc⟩⟩

end Sys2Proof.Machine
end

