-- ==== Sys2Proof/Laws/Walks.lean ====
section
/-! SUPPORT. What the shared operations of the walk units and the taking of a report come to: the window, the end of a
walk, the read that is ready, the first report for a cell. -/

namespace Sys2Proof.Machine

set_option Elab.async false

open Sys2Proof.Safety

/-! ### Reading an updated vector at a numbered place -/

/-- The entry written reads as written. -/
theorem set_same {α : Type} {n : Nat} (v : Vector α n) (i : Fin n) (x : α) : (v.set i x)[i] = x := by
  simp

/-- Every other entry reads as before. -/
theorem set_other {α : Type} {n : Nat} (v : Vector α n) (i j : Fin n) (x : α) (h : i ≠ j) : (v.set i x)[j] = v[j] := by
  simp only [Fin.getElem_fin]
  exact Vector.getElem_set_ne _ _ (fun hh => h (Fin.ext hh))

/-! ### Windows -/

/-- A property of the four places, place by place. -/
theorem forall_place {p : PlaceId → Prop} : (∀ k, p k) ↔ p 0 ∧ p 1 ∧ p 2 ∧ p 3 := by
  simp [Fin.forall_fin_succ]

/-- A window is outstanding when some place of it is. -/
theorem windowOutstanding_iff (window : Vector (Option Place) 4) :
    windowOutstanding window = true ↔ ∃ k : PlaceId, placeOutstanding window[k] = true := by
  simp [windowOutstanding, placeOrder, Fin.exists_fin_succ]

/-- A window is empty when every place of it is. -/
theorem windowEmpty_iff (window : Vector (Option Place) 4) :
    windowEmpty window = true ↔ ∀ k : PlaceId, window[k] = none := by
  simp [windowEmpty, placeOrder, Fin.forall_fin_succ]

/-- Emptying the answered places keeps the outstanding ones. -/
theorem emptyAnswered_eq (p : Option Place) : emptyAnswered p = if placeOutstanding p then p else none := by
  cases p <;> rfl

/-- The head of a window is the place in use whose index is below every other's (R105). -/
theorem headPlace_eq {window : Vector (Option Place) 4} {k : PlaceId} {p : Place} (h : window[k] = some p)
    (least : ∀ j q, j ≠ k → window[j] = some q → p.index < q.index) : headPlace window = some (k, p) := by
  have other : ∀ j : PlaceId, j ≠ k → window[j] = none ∨ ∃ q, window[j] = some q ∧ p.index < q.index := by
    intro j hj
    cases hq : window[j] with
    | none => exact .inl rfl
    | some q => exact .inr ⟨q, rfl, least j q hj hq⟩
  have after : ∀ best j, j ≠ k → best = some (k, p) → earlierPlace window best j = some (k, p) := by
    rintro best j hj rfl
    rcases other j hj with h1 | ⟨q, h1, h2⟩
    · simp only [earlierPlace, h1]
    · simp only [earlierPlace, h1]
      rw [if_neg (by omega)]
  have before : ∀ best j, j ≠ k → (best = none ∨ ∃ i q, best = some (i, q) ∧ p.index < q.index) →
      earlierPlace window best j = none ∨ ∃ i q, earlierPlace window best j = some (i, q) ∧ p.index < q.index := by
    intro best j hj hb
    rcases other j hj with h1 | ⟨q, h1, h2⟩
    · simpa only [earlierPlace, h1] using hb
    · right
      rcases hb with rfl | ⟨i, q', rfl, h3⟩
      · exact ⟨j, q, by simp only [earlierPlace, h1], h2⟩
      · simp only [earlierPlace, h1]
        split
        · exact ⟨j, q, rfl, h2⟩
        · exact ⟨i, q', rfl, h3⟩
  have itself : ∀ best, (best = none ∨ ∃ i q, best = some (i, q) ∧ p.index < q.index) →
      earlierPlace window best k = some (k, p) := by
    rintro best (rfl | ⟨i, q, rfl, h3⟩)
    · simp only [earlierPlace, h]
    · simp only [earlierPlace, h]
      rw [if_pos h3]
  simp only [headPlace, placeOrder, List.foldl]
  fin_cases k
  · exact after _ _ (by decide) (after _ _ (by decide) (after _ _ (by decide) (itself _ (.inl rfl))))
  · exact after _ _ (by decide) (after _ _ (by decide) (itself _ (before _ _ (by decide) (.inl rfl))))
  · exact after _ _ (by decide) (itself _ (before _ _ (by decide) (before _ _ (by decide) (.inl rfl))))
  · exact itself _ (before _ _ (by decide) (before _ _ (by decide) (before _ _ (by decide) (.inl rfl))))

/-- An empty window has no head. -/
theorem headPlace_none {window : Vector (Option Place) 4} (h : ∀ j : PlaceId, window[j] = none) :
    headPlace window = none := by
  simp only [headPlace, placeOrder, List.foldl, earlierPlace, h]

/-! ### The end of a walk -/

/-- All that ending a walk does (R107). -/
theorem endWalk_spec (s : State) (w : UnitId) (walk : Walk) (window : Vector (Option Place) 4) (kind : ReportKind) :
    walkEnded s (s.endWalk w walk window kind) w walk window kind := by
  refine ⟨?_, fun k => ?_, ?_, ?_, ?_, fun v hv => ?_, fun x => ?_, rfl, rfl, rfl⟩
  · simp [State.endWalk]
  · rw [← emptyAnswered_eq]
    simp [State.endWalk]
  · by_cases h : windowOutstanding window = true
    · rw [if_pos ((windowOutstanding_iff window).1 h)]
      simp [State.endWalk, h]
    · rw [if_neg (fun hh => h ((windowOutstanding_iff window).2 hh))]
      simp [State.endWalk, h]
  · simp [State.endWalk]
  · simp [State.endWalk, Tallies.zero]
  · exact set_other _ _ _ _ (Ne.symm hv)
  · exact releaseRefs_get _ _ x

/-- Ending a walk touches the unit, the Stride Table, the arbiter's fields and the reports alone. -/
theorem endWalk_frame (s : State) (w : UnitId) (walk : Walk) (window : Vector (Option Place) 4) (kind : ReportKind) :
    s.endWalk w walk window kind =
      { s with
        units := (s.endWalk w walk window kind).units
        strides := (s.endWalk w walk window kind).strides
        holdOwner := (s.endWalk w walk window kind).holdOwner
        grant := (s.endWalk w walk window kind).grant
        walkReports := (s.endWalk w walk window kind).walkReports } := rfl

/-! ### The first report for a cell -/

/-- The first report of a kind for a cell is the one found, and the others are left. -/
theorem firstReport_found {s : State} {c : CellId} {kind : ReportKind → Bool} {m : WalkReport}
    {rest : List WalkReport} (h : firstReport s c kind m rest) :
    s.walkReports.find? (reportFor c kind) = some m ∧ s.walkReports.eraseP (reportFor c kind) = rest := by
  obtain ⟨front, back, h1, h2, h3, h4, h5⟩ := h
  have hm : reportFor c kind m = true := by simp [reportFor, h3, h4]
  have hf : ∀ x ∈ front, ¬reportFor c kind x = true := by
    intro x hx
    have := h5 x hx
    simp only [reportFor, Bool.and_eq_true, decide_eq_true_eq]
    exact this
  refine ⟨?_, ?_⟩
  · rw [h1, List.find?_append, List.find?_eq_none.mpr hf]
    simp [hm]
  · rw [h1, List.eraseP_append_right _ hf, h2, List.eraseP_cons_of_pos hm]

end Sys2Proof.Machine
end

