-- ==== Sys2Proof/Laws/Settle.lean ====
section
/-! SUPPORT. What completing an event does, whole: the fields a grant and a dispatch write, the induction over them, and
that after an event no dispatch is possible and no grant is due (R99, R124). -/

namespace Sys2Proof.Machine

set_option Elab.async false

open Sys2Proof.Safety

/-! ### Offers -/

/-- Some place is empty exactly where one is found. -/
theorem emptyPlace_isSome (window : Vector (Option Place) 4) :
    (emptyPlace window).isSome = true ↔ ∃ k : PlaceId, window[k] = none := by
  simp only [emptyPlace, placeOrder, List.find?_isSome, List.mem_cons, List.not_mem_nil, or_false,
    Option.isNone_iff_eq_none]
  have all : ∀ k : PlaceId, k = 0 ∨ k = 1 ∨ k = 2 ∨ k = 3 := by decide
  exact ⟨fun ⟨k, _, h⟩ => ⟨k, h⟩, fun ⟨k, h⟩ => ⟨k, all k, h⟩⟩

/-- The model's offer priority is the offer of R103 and R123. -/
theorem offerPriority_iff (u : WalkUnit) (priority : Nat) :
    offerPriority u = some priority ↔ offersRead u priority := by
  rw [offerPriority, readReady]
  rcases hm : u.mode with _ | walk | _ <;> rcases hg : u.generator with _ | g <;>
    rcases hk : emptyPlace u.window with _ | k <;> try simp [offersRead, hm, hg]
  · intro _ _ k hw
    have := (emptyPlace_isSome u.window).2 ⟨k, hw⟩
    simp [hk] at this
  · obtain ⟨j, hj⟩ := (emptyPlace_isSome u.window).1 (by simp [hk])
    cases hx : g.exhausted
    · simpa using fun _ => ⟨j, hj⟩
    · simp

/-- The Publisher's offer, in the words of R123. -/
theorem publisherOffers_iff (s : State) : publisherOffers s = true ↔ offersWrite s := by
  rcases hp : s.publisher with _ | record
  · simp [publisherOffers, offersWrite, hp]
  · cases hw : record.waiting <;> simp [publisherOffers, offersWrite, hp, hw]

/-- Every unit is in `unitOrder`. -/
theorem mem_unitOrder (w : UnitId) : w ∈ unitOrder := by
  revert w
  decide

/-- Every unit is in the rotation. -/
theorem mem_rotationOrder (pointer w : UnitId) : w ∈ rotationOrder pointer := by
  revert pointer w
  decide

/-- Folding a list of offers that may be absent gives the highest of them and of the first `best`. -/
theorem winner_spec (offer : UnitId → Option Nat) (l : List UnitId) (best : Option Nat) :
    match l.foldl
        (fun best w =>
          match offer w, best with
          | none, _ => best
          | some p, none => some p
          | some p, some b => some (Nat.max p b))
        best with
    | none => best = none ∧ ∀ w ∈ l, offer w = none
    | some top =>
      (best = some top ∨ ∃ w ∈ l, offer w = some top) ∧ (∀ b, best = some b → b ≤ top)
        ∧ ∀ w ∈ l, ∀ q, offer w = some q → q ≤ top := by
  induction l generalizing best with
  | nil => cases best <;> simp
  | cons v rest ih =>
    rw [List.foldl_cons]
    rcases hv : offer v with _ | p
    · have h := ih best
      split at h <;> rename_i hr <;> simp only [hr]
      · simpa [hv] using h
      · simpa [hv] using h
    · rcases best with _ | b
      · have h := ih (some p)
        split at h <;> rename_i hr <;> simp only [hr]
        · exact absurd h.1 (by simp)
        · simpa [hv] using h
      · have h := ih (some (Nat.max p b))
        split at h <;> rename_i hr <;> simp only [hr]
        · exact absurd h.1 (by simp)
        · rename_i top
          have hm : p ≤ top ∧ b ≤ top := by simpa using h.2.1 _ rfl
          refine ⟨?_, by simpa using hm.2, by simpa [hv] using ⟨hm.1, h.2.2⟩⟩
          rcases h.1 with h1 | ⟨w, hw⟩
          · have h1 : Nat.max p b = top := Option.some.inj h1
            rcases Nat.le_total p b with hpb | hpb
            · exact .inl (by rw [← h1]; exact congrArg some (Nat.max_eq_right hpb).symm)
            · exact .inr ⟨v, by simp, by rw [hv, ← h1]; exact congrArg some (Nat.max_eq_left hpb).symm⟩
          · exact .inr ⟨w, by simp [hw]⟩

/-- The winning priority is that of some unit's offer, and no unit offers a higher one (R124 step 2). -/
theorem winningPriority_spec (s : State) :
    match winningPriority s with
    | none => ∀ (w : UnitId) (q : Nat), ¬offersRead s.units[w] q
    | some top =>
      (∃ w : UnitId, offersRead s.units[w] top) ∧ ∀ (w : UnitId) (q : Nat), offersRead s.units[w] q → q ≤ top := by
  have h := winner_spec (fun w => offerPriority s.units[w]) unitOrder none
  simp only [← offerPriority_iff]
  change match winningPriority s with | none => _ | some _ => _ at h
  split at h <;> rename_i hr
  · intro w q hq
    rw [h.2 w (mem_unitOrder w)] at hq
    cases hq
  · refine ⟨?_, fun w q hq => h.2.2 w (mem_unitOrder w) q hq⟩
    rcases h.1 with h1 | ⟨w, _, hw⟩
    · cases h1
    · exact ⟨w, hw⟩

/-- The arbiter chooses none exactly when no offer stands (R124). -/
theorem arbiterChoice_none (s : State) :
    arbiterChoice s = none ↔ ¬offersWrite s ∧ ∀ (w : UnitId) (q : Nat), ¬offersRead s.units[w] q := by
  rw [← publisherOffers_iff]
  unfold arbiterChoice
  split
  · rename_i hp
    simp [hp]
  · rename_i hp
    have h := winningPriority_spec s
    split
    · rename_i hw
      rw [hw] at h
      exact ⟨fun _ => ⟨hp, h⟩, fun _ => rfl⟩
    · rename_i top hw
      rw [hw] at h
      obtain ⟨w, ho⟩ := h.1
      have found : (rotationOrder s.rotation).find? (offersAt s top) ≠ none := fun hn =>
        List.find?_eq_none.mp hn w (mem_rotationOrder _ w) (by simpa [offersAt] using (offerPriority_iff _ _).2 ho)
      split
      · simpa using fun _ => ⟨w, top, ho⟩
      · rw [Option.map_eq_none_iff]
        exact ⟨fun hn => absurd hn found, fun hn => absurd ho (hn.2 w top)⟩

/-! ### One grant, one dispatch -/

/-- A grant writes the grant alone. -/
theorem makeGrant_frame (s : State) : s.makeGrant = { s with grant := s.makeGrant.grant } := by
  unfold State.makeGrant
  split <;> rfl

/-- A grant that waits to be taken, or a memory side that is not ready, leaves all as it is (R124). -/
theorem makeGrant_none {s : State} (h : s.memoryReady = false ∨ s.grant ≠ none) : s.makeGrant = s := by
  unfold State.makeGrant
  split
  · rename_i hr
    simp only [Bool.and_eq_true, Option.isNone_iff_eq_none] at hr
    rcases h with h | h
    · simp [h] at hr
    · exact absurd hr.2 h
  · rfl

/-- The grant that is made (R124). -/
theorem makeGrant_due {s : State} (hr : s.memoryReady = true) (hg : s.grant = none) :
    s.makeGrant = { s with grant := (arbiterChoice s).map (fun requester => { requester := requester, withdrawn := false }) } := by
  unfold State.makeGrant
  rw [if_pos (by simp [hr, hg])]

/-- With no grant due nothing is granted. -/
theorem makeGrant_settled {s : State} (h : GrantLaw s) : s.makeGrant = s := by
  by_cases hr : s.memoryReady = true
  · by_cases hg : s.grant = none
    · rw [makeGrant_due hr hg, (arbiterChoice_none s).2 (h hr hg)]
      simp [← hg]
    · exact makeGrant_none (.inr hg)
  · exact makeGrant_none (.inl (by simpa using hr))

/-- After a grant is made none is due. -/
theorem makeGrant_law (s : State) : GrantLaw s.makeGrant := by
  intro hr hg
  have hf := makeGrant_frame s
  have hr' : s.memoryReady = true := by
    rw [hf] at hr
    exact hr
  by_cases h : s.grant = none
  · rw [makeGrant_due hr' h] at hg ⊢
    exact (arbiterChoice_none s).1 (by simpa using hg)
  · rw [makeGrant_none (.inr h)] at hg
    exact absurd hg h

/-- An entry is eligible when its cell has no walk in flight (R99). -/
theorem eligible_iff (s : State) (e : Contribution) :
    eligible s e = true ↔ ∃ r, s.cells[e.cell].round = some r ∧ r.walkInFlight = none := by
  unfold eligible
  split <;> rename_i hr
  · simpa only [hr] using by simp
  · simp only [hr, Option.isNone_iff_eq_none, Option.some.injEq, exists_eq_left']

/-- A unit is free when it is IDLE (R99). -/
theorem unitFree_iff (s : State) (w : UnitId) : unitFree s w = true ↔ s.units[w].mode = .idle := by
  unfold unitFree
  split <;> rename_i h <;> simp only [h, reduceCtorEq]

/-- A dispatch pairs the first eligible entry with the lowest-numbered free unit, or there is no such pair and nothing
changes (R99). -/
theorem makeDispatch_cases (s : State) :
    (s.makeDispatch = s ∧ DispatchLaw s)
      ∨ ∃ e r w, s.contributions.find? (eligible s) = some e ∧ unitOrder.find? (unitFree s) = some w
        ∧ s.cells[e.cell].round = some r ∧ s.makeDispatch = s.dispatchTo e r w := by
  unfold State.makeDispatch
  rcases he : s.contributions.find? (eligible s) with _ | e
  · refine .inl ⟨rfl, fun e hm r hr hn => ?_⟩
    exact absurd ((eligible_iff s e).2 ⟨r, hr, hn⟩) (List.find?_eq_none.mp he e hm)
  · rcases hw : unitOrder.find? (unitFree s) with _ | w
    · refine .inl ⟨rfl, fun _ _ _ _ _ w hi => ?_⟩
      exact List.find?_eq_none.mp hw w (mem_unitOrder w) ((unitFree_iff s w).2 hi)
    · obtain ⟨r, hr, -⟩ := (eligible_iff s e).1 (List.find?_some he)
      exact .inr ⟨e, r, w, rfl, rfl, hr, by simp only [hr]⟩

/-- A dispatch writes the Pending Queue, its counts, the cell and the unit. -/
theorem makeDispatch_frame (s : State) :
    s.makeDispatch =
      { s with
        contributions := s.makeDispatch.contributions, hostCounts := s.makeDispatch.hostCounts
        cells := s.makeDispatch.cells, units := s.makeDispatch.units } := by
  rcases makeDispatch_cases s with ⟨h, -⟩ | ⟨e, r, w, -, -, -, h⟩
  · simp only [h]
  · rw [h]
    rfl

/-- With no dispatch possible none is made. -/
theorem makeDispatch_settled {s : State} (h : DispatchLaw s) : s.makeDispatch = s := by
  rcases makeDispatch_cases s with ⟨hs, -⟩ | ⟨e, r, w, he, hw, hr, -⟩
  · exact hs
  · obtain ⟨q, hq, hn⟩ := (eligible_iff s e).1 (List.find?_some he)
    exact absurd ((unitFree_iff s w).1 (List.find?_some hw)) (h e (List.mem_of_find?_eq_some he) q hq hn w)

/-! ### All that an event makes possible -/

/-- A completed event answers a next state. -/
@[simp] theorem completed_eq (s : State) : completed s = .next s.settle := rfl

/-- What every grant and every dispatch keeps, completing an event keeps. -/
theorem settle_keeps {P : State → Prop} (grant : ∀ t, P t → P t.makeGrant) (dispatch : ∀ t, P t → P t.makeDispatch)
    {s : State} (h : P s) : P s.settle := by
  unfold State.settle unitOrder
  simp only [List.foldl_cons, List.foldl_nil]
  exact grant _ (dispatch _ (grant _ (dispatch _ (grant _ (dispatch _ (grant _ (dispatch _ (grant _ h))))))))

/-- Where no dispatch is possible and no grant is due, completing an event changes nothing. -/
theorem settle_settled {s : State} (hd : DispatchLaw s) (hg : GrantLaw s) : s.settle = s := by
  unfold State.settle unitOrder
  simp only [List.foldl_cons, List.foldl_nil, makeGrant_settled hg, makeDispatch_settled hd]

/-- Completing an event writes the Pending Queue, its counts, the cells, the units and the grant. -/
theorem settle_frame (s : State) :
    s.settle =
      { s with
        contributions := s.settle.contributions, hostCounts := s.settle.hostCounts
        cells := s.settle.cells, units := s.settle.units, grant := s.settle.grant } := by
  let framed (t : State) : Prop :=
    t =
      { s with
        contributions := t.contributions, hostCounts := t.hostCounts
        cells := t.cells, units := t.units, grant := t.grant }
  refine settle_keeps (P := framed) (fun t h => ?_) (fun t h => ?_) rfl
  · rw [makeGrant_frame t]
    exact congrArg (fun u : State => { u with grant := t.makeGrant.grant }) h
  · rw [makeDispatch_frame t]
    exact congrArg
      (fun u : State =>
        { u with
          contributions := t.makeDispatch.contributions, hostCounts := t.makeDispatch.hostCounts
          cells := t.makeDispatch.cells, units := t.makeDispatch.units })
      h

/-- After an event no grant is due (R124). -/
theorem settle_grantLaw (s : State) : GrantLaw s.settle := by
  unfold State.settle unitOrder
  simp only [List.foldl_cons, List.foldl_nil]
  exact makeGrant_law _

/-- A grant changes neither the queue, the cells nor the units. -/
theorem makeGrant_dispatchLaw {s : State} (h : DispatchLaw s) : DispatchLaw s.makeGrant := by
  rw [makeGrant_frame]
  exact h

/-- How many units are free. -/
def freeUnits (s : State) : Nat :=
  unitOrder.countP (unitFree s)

/-- A dispatch leaves none possible, or takes a free unit (R99). -/
theorem makeDispatch_progress (s : State) : DispatchLaw s.makeDispatch ∨ freeUnits s.makeDispatch + 1 ≤ freeUnits s := by
  rcases makeDispatch_cases s with ⟨h, hd⟩ | ⟨e, r, w, -, hw, -, h⟩
  · rw [h]
    exact .inl hd
  · right
    have free := List.find?_some hw
    have after : ∀ v, unitFree (s.dispatchTo e r w) v = (unitFree s v && decide (v ≠ w)) := fun v => by
      by_cases hv : v = w
      · subst hv
        unfold unitFree
        rw [show (s.dispatchTo e r v).units[v] = startWalk e r from set_same _ _ _]
        simp [startWalk]
      · unfold unitFree
        rw [show (s.dispatchTo e r w).units[v] = s.units[v] from set_other _ _ _ _ (Ne.symm hv)]
        simp [hv]
    have all : ∀ w : UnitId, w = 0 ∨ w = 1 ∨ w = 2 ∨ w = 3 := by decide
    rw [h]
    simp only [freeUnits, unitOrder, List.countP_cons, List.countP_nil, after]
    rcases all w with rfl | rfl | rfl | rfl <;> simp [free]

/-- A grant changes neither the queue, the cells nor the units. -/
theorem makeGrant_freeUnits (s : State) : freeUnits s.makeGrant = freeUnits s := by
  rw [makeGrant_frame]
  rfl

/-- After an event no dispatch is possible (R99). -/
theorem settle_dispatchLaw (s : State) : DispatchLaw s.settle := by
  let left (n : Nat) (t : State) : Prop := DispatchLaw t ∨ freeUnits t + n ≤ 4
  have grant : ∀ n t, left n t → left n t.makeGrant := fun n t h =>
    h.imp makeGrant_dispatchLaw (fun h => by rw [makeGrant_freeUnits]; exact h)
  have dispatch : ∀ n t, left n t → left (n + 1) t.makeDispatch := fun n t h => by
    rcases h with h | h
    · exact .inl (by rw [makeDispatch_settled h]; exact h)
    · exact (makeDispatch_progress t).imp id (fun hp => by omega)
  have start : left 0 s := .inr (by
    have := List.countP_le_length (p := unitFree s) (l := unitOrder)
    simpa [freeUnits, unitOrder] using this)
  have round : ∀ n t, left n t → left (n + 1) t.makeDispatch.makeGrant := fun n t h => grant _ _ (dispatch n t h)
  have last : left 4 s.settle := round 3 _ (round 2 _ (round 1 _ (round 0 _ (grant 0 s start))))
  rcases last with h | h
  · exact h
  · intro e _ r _ _ w hi
    have hw : 0 < freeUnits s.settle := List.countP_pos_iff.2 ⟨w, mem_unitOrder w, (unitFree_iff _ w).2 hi⟩
    omega

/-- Completing a completed event changes nothing. -/
theorem settle_twice (s : State) : s.settle.settle = s.settle :=
  settle_settled (settle_dispatchLaw s) (settle_grantLaw s)

/-- Making the due grant first makes no difference (R124). -/
theorem settle_makeGrant (s : State) : s.makeGrant.settle = s.settle := by
  unfold State.settle
  rw [makeGrant_settled (makeGrant_law s)]

/-- With no grant due, making the first possible dispatch first makes no difference: the pairing is repeated while both
remain (R99). -/
theorem settle_makeDispatch {s : State} (hg : GrantLaw s) : s.makeDispatch.settle = s.settle := by
  have round : s.makeDispatch.settle = s.settle.makeDispatch.makeGrant := by
    unfold State.settle unitOrder
    simp only [List.foldl_cons, List.foldl_nil, makeGrant_settled hg]
  rw [round, makeDispatch_settled (settle_dispatchLaw s), makeGrant_settled (settle_grantLaw s)]

/-! ### The fields that completing an event keeps -/

@[simp] theorem State.settle_pending (s : State) : s.settle.pending = s.pending := by rw [settle_frame]

@[simp] theorem State.settle_ports (s : State) : s.settle.ports = s.ports := by rw [settle_frame]

@[simp] theorem State.settle_queues (s : State) : s.settle.queues = s.queues := by rw [settle_frame]

@[simp] theorem State.settle_strides (s : State) : s.settle.strides = s.strides := by rw [settle_frame]

@[simp] theorem State.settle_publicationQueue (s : State) : s.settle.publicationQueue = s.publicationQueue := by rw [settle_frame]

@[simp] theorem State.settle_publisher (s : State) : s.settle.publisher = s.publisher := by rw [settle_frame]

@[simp] theorem State.settle_slots (s : State) : s.settle.slots = s.slots := by rw [settle_frame]

@[simp] theorem State.settle_epoch (s : State) : s.settle.epoch = s.epoch := by rw [settle_frame]

@[simp] theorem State.settle_rotation (s : State) : s.settle.rotation = s.rotation := by rw [settle_frame]

@[simp] theorem State.settle_holdOwner (s : State) : s.settle.holdOwner = s.holdOwner := by rw [settle_frame]

@[simp] theorem State.settle_memoryReady (s : State) : s.settle.memoryReady = s.memoryReady := by rw [settle_frame]

@[simp] theorem State.settle_request (s : State) : s.settle.request = s.request := by rw [settle_frame]

@[simp] theorem State.settle_answers (s : State) : s.settle.answers = s.answers := by rw [settle_frame]

@[simp] theorem State.settle_walkReports (s : State) : s.settle.walkReports = s.walkReports := by rw [settle_frame]

@[simp] theorem State.settle_publicationReports (s : State) : s.settle.publicationReports = s.publicationReports := by rw [settle_frame]

@[simp] theorem State.settle_cancels (s : State) : s.settle.cancels = s.cancels := by rw [settle_frame]

@[simp] theorem State.settle_deadlineTicks (s : State) : s.settle.deadlineTicks = s.deadlineTicks := by rw [settle_frame]

@[simp] theorem State.settle_responseTicks (s : State) : s.settle.responseTicks = s.responseTicks := by rw [settle_frame]

@[simp] theorem State.settle_tickCounter (s : State) : s.settle.tickCounter = s.tickCounter := by rw [settle_frame]

@[simp] theorem State.settle_periods (s : State) : s.settle.periods = s.periods := by rw [settle_frame]

@[simp] theorem State.settle_deviceReset (s : State) : s.settle.deviceReset = s.deviceReset := by rw [settle_frame]

@[simp] theorem State.settle_busData (s : State) : s.settle.busData = s.busData := by rw [settle_frame]

@[simp] theorem State.settle_lossCount (s : State) : s.settle.lossCount = s.lossCount := by rw [settle_frame]

end Sys2Proof.Machine
end

