-- ==== Sys2Proof/WellFormed.lean ====
section
/-! DEFINITION. Which terms of Instr are the row they stand for: the rows that carry the word of a host's access need a
word that makes the access that row. Every other term is well formed; whether its event is there to be taken is a matter
of the state. -/

namespace Sys2Proof

/-- Whether a term is its row: UNKNOWN_COMMAND carries a code that names no command (R167), PORT_RESET a word with
RESET, and DISCARD, ACK, SET_ENABLES and SELECT_VIEW words without RESET that carry their request (R143, R144). -/
def WellFormed : Instr → Bool
  | .openCell _ => true
  | .contribute _ => true
  | .wait _ => true
  | .abort _ => true
  | .release _ => true
  | .query _ => true
  | .setStride _ => true
  | .readStride _ => true
  | .unknownCommand _ word => (Machine.codeLength (Machine.commandCode word)).isNone
  | .commandDecision _ => true
  | .ignoredWrite _ _ _ => true
  | .responseRead _ => true
  | .portReset _ word => Machine.controlReset word
  | .discard _ word => !Machine.controlReset word && Machine.controlDiscard word
  | .ack _ word => !Machine.controlReset word && Machine.controlAck word != 0
  | .setEnables _ word => !Machine.controlReset word && Machine.controlSetsEnables word
  | .selectView _ word => !Machine.controlReset word && Machine.controlSelectsView word
  | .resetLineAsserted _ => true
  | .resetLineReleased _ => true
  | .acknowledgement _ => true
  | .lossNotice _ => true
  | .removal _ => true
  | .cut _ _ => true
  | .cancel _ _ _ => true
  | .walkEndDone _ => true
  | .walkEndFault _ => true
  | .walkEndCut _ => true
  | .publicationDone _ => true
  | .dispatch => true
  | .arbiterGrant => true
  | .readGrantTaken _ => true
  | .writeGrantTaken => true
  | .memoryResponse _ _ => true
  | .responseTimerTick _ => true
  | .responseTimeout _ => true
  | .walkUnitAnswer _ _ => true
  | .publisherAnswer => true
  | .tick => true
  | .deadlineTimerTick _ => true
  | .deadlineExpiry _ => true
  | .deviceReset => true
  | .deviceResetRelease _ => true
  | .commandWrite _ _ => true
  | .suppliesComeUp => true

end Sys2Proof
end

