-- ==== Sys2Proof/Tests/Slice0.lean ====
section
/-! SUPPORT. The session's own tests: terms that WellFormed refuses, worked examples of the spec, and for every statement
with hypotheses a witness that meets them, clause by clause. -/

namespace Sys2Proof.Tests

set_option Elab.async false

open Sys2Proof Sys2Proof.Machine Sys2Proof.Safety

/-! ### Helpers -/

/-- Whether an outcome is a next state with this property. -/
def nextIs (o : Host.Outcome State Fault Refusal) (p : State → Bool) : Bool :=
  match o with
  | .next t => p t
  | .fault _ => false
  | .refused _ => false

/-- SUM, SATURATE, SKIP, CHOP, no precision reporting, W32, no post-shift. -/
def plain : Settings :=
  { combine :=
      { operation := .sum, overflow := .saturate, voidPolicy := .skip, rounding := .chop, precisionReporting := false }
    output := .saturate, width := .w32, postShift := 0 }

/-- A round of H0 with participants H0 and H1, timeout 5 and a destination. -/
def opened : Round :=
  newRound 0 0b0011 plain false 5 (some 0x10000)

/-- The reset state with C1 in round 1 with this record. -/
def cellOne (r : Round) : State :=
  State.reset.putCell 1 { number := 1, round := some r }

/-- A state in which port `h` has handed over these words. -/
def handing (s : State) (h : HostId) (words : List Word) : State :=
  s.putPort h { s.ports[h] with framing := .delivering words .handed }

/-- The words are handed over. -/
theorem handing_hands {s : State} {h : HostId} {words : List Word} {code : Nat}
    (hc : (words.getD 0 0).toNat / 2 ^ 28 = code) : handedOver (handing s h words) h code words :=
  ⟨by simp [handing], hc⟩

/-- A port whose bus is free delivers nothing. -/
theorem free_delivers_nothing {p : HostPort} (h : busHeld p = false) :
    ∀ words stage, p.framing ≠ .delivering words stage := by
  intro words stage hf
  simp [busHeld, hf] at h

/-- A state whose Publisher is busy with C9. -/
def publishing (s : State) : State :=
  { s with
    publisher := some
      { cell := 9, destination := 0x10000, firstHalf := 1, secondHalf := 2, step := .firstWrite, waiting := false } }

/-! ### WellFormed: one ill-formed term for each of its checks -/

theorem test_wf_unknownCommand_with_a_known_code : WellFormed (.unknownCommand 0 0x10000000) = false := by decide
theorem test_wf_portReset_without_reset : WellFormed (.portReset 0 0x40000000) = false := by decide
theorem test_wf_discard_with_reset : WellFormed (.discard 0 0xC0000000) = false := by decide
theorem test_wf_discard_without_discard : WellFormed (.discard 0 0x00000100) = false := by decide
theorem test_wf_ack_with_reset : WellFormed (.ack 0 0x8000001F) = false := by decide
theorem test_wf_ack_of_nothing : WellFormed (.ack 0 0x00000100) = false := by decide
theorem test_wf_setEnables_with_reset : WellFormed (.setEnables 0 0x80000100) = false := by decide
theorem test_wf_setEnables_without_request : WellFormed (.setEnables 0 0x00000600) = false := by decide
theorem test_wf_selectView_with_reset : WellFormed (.selectView 0 0x80001000) = false := by decide
theorem test_wf_selectView_without_request : WellFormed (.selectView 0 0x00006000) = false := by decide

/-! ### Worked examples of the spec -/

/-- The table of R5: the quotients of −7 by 2, 6 by 4, −6 by 4 and 127 by 2^16. -/
theorem test_prescale_table :
    prescaled .chop (-1) (-7) = -3 ∧ prescaled .nearest (-1) (-7) = -4
      ∧ prescaled .chop (-2) 5 = 1 ∧ prescaled .nearest (-2) 5 = 1
      ∧ prescaled .chop (-2) 6 = 1 ∧ prescaled .nearest (-2) 6 = 2
      ∧ prescaled .chop (-2) (-6) = -1 ∧ prescaled .nearest (-2) (-6) = -2
      ∧ prescaled .nearest (-16) 127 = 0 ∧ prescaled .nearest (-4) (-1048576) = -65536
      ∧ prescaleLoses (-4) (-1048576) = false := by
  decide

/-- R9: a sum of −2^47 counts as a wrap though the reduction leaves it as it is. -/
theorem test_sum_of_the_lowest_value_wraps :
    combineValue { plain.combine with overflow := .wrap } (some (-(2 ^ 47))) 0 Tallies.zero =
      .recorded (some (-(2 ^ 47))) { Tallies.zero with combined := 1, wraps := 1 } := by
  decide

/-- Section 4.6.4: the reading −32,768 of an S16 walk is VOID and skipped. -/
theorem test_void_is_skipped :
    treatElement plain.combine .s16 0 (some 100) { Tallies.zero with combined := 1 } (-32768) =
      .recorded (some 100) { Tallies.zero with combined := 1, voids := 1 } := by
  decide

/-- Section 11.2: post-shift 2 under CHOP divides 4,100 by 4. -/
theorem test_output_of_the_barrier :
    outputStage { plain with postShift := 2 } (some 4100) Tallies.zero = .result (some 1025) Tallies.zero := by
  decide

/-- R1: the element at an address is the bytes from it, the lowest address least significant. -/
theorem test_element_bytes :
    elementBytes 0x8877665544332211 0x1002 2 = 0x4433 ∧ elementBytes 0x8877665544332211 0x1004 4 = -0x778899AB
      ∧ elementBytes 0x8877665544332211 0x1007 1 = -0x78 := by
  decide

/-- Section 4.6.3: the block's elements 3, 6 and 11. -/
def block : Descriptor :=
  { base := 0x00300008, format := .s32, dims := 3, inner := 3, middle := 2, outer := 2, step := 1, middleEntry := 1
    outerEntry := 3 }

/-- The Stride Table of section 4.6.3: 56 in S1 and 440 in S3. -/
def blockStrides : Vector StrideEntry 16 :=
  State.reset.strides |>.set 1 { value := 56, count := 1, writer := some 0 }
    |>.set 3 { value := 440, count := 1, writer := some 0 }

theorem test_block_addresses :
    (generatorAfter blockStrides block 3).address = 0x00300048
      ∧ (generatorAfter blockStrides block 6).address = 0x00300208
      ∧ (generatorAfter blockStrides block 11).address = 0x00300250
      ∧ (generatorAfter blockStrides block 12).exhausted = true := by
  decide +kernel

/-- Section 11.2: the record's sixteen bytes 01 04 00 …, 0F 00 00 00, 01 00, 01, 04 from byte 0 upward. -/
theorem test_barrier_record :
    (composeRecord 1
        { number := 1
          round := some
            { opened with
              outcome := some .complete, tallies := { Tallies.zero with combined := 15, voids := 1 }
              result := some
                { value := some 1025, flags := { noFlags with voidsSkipped := true } } } }).map
        (fun p => (p.firstHalf, p.secondHalf)) =
      some (0x0000000000000401, 0x040100010000000F) := by
  decide +kernel

/-- Section 11.5: the record of the ABORTED round 3 holds 00 00 00 80 FF FF FF FF, 00 00 00 00, 03 00, 04, 00. -/
theorem test_aborted_record :
    (composeRecord 4
        { number := 3
          round := some
            { opened with outcome := some .aborted, result := some { value := none, flags := noFlags } } }).map
        (fun p => (p.firstHalf, p.secondHalf)) =
      some (0xFFFFFFFF80000000, 0x0004000300000000) := by
  decide +kernel

/-- Section 11.3: a fault notice has eight words, the last the element's address. -/
theorem test_fault_notice :
    (noticeWords
        { kind := .contributionEnd (some .faulting), cell := 2, number := 1, outcome := some .faulted
          publication := some .notWritten, result := 0xFFFF800000000000, combined := 0, voids := 0, flags := noFlags
          fault := some { kind := .overflow, element := some { host := 0, index := 2, address := 0x00040008 } } }) =
      [ 0x10920008, 0x00030001, 0x00000000, 0xFFFF8000, 0, 0, 0x38000002, 0x00040008 ] := by
  decide +kernel

/-- Section 11.5: SET_STRIDE of −28 to S5 is ACCEPTED with previous 0, writer none. -/
theorem test_set_stride :
    nextIs (exec (.setStride 2) (handing State.reset 2 [0x74000005, 0xFFFFFFE4]))
      (fun t => t.strides[5] == { value := -28, count := 0, writer := some 2 }
        && t.ports[2].framing == .delivering [0x74000005, 0xFFFFFFE4] (.decided .accepted 0)) = true := by
  decide +kernel

/-- R175: straps of 19 give 20 periods and straps of 101 give 100. -/
theorem test_straps : selectedPeriods 19 = 20 ∧ selectedPeriods 101 = 100 ∧ selectedPeriods 33 = 33 := by
  decide

/-- R124: the unit after the rotation pointer is first in order. -/
theorem test_rotation : rotationOrder 1 = [2, 3, 0, 1] := by
  decide

/-- Section 10.2: the encoded CONTRIBUTE, and each of its variants with its refusal. -/
theorem test_manual_contribute :
    portCheck [0x2A0C002A, 0x00001000, 0x6000800C, 0x00809000, 0x00800000] = none
      ∧ decodeContribute [0x2A0C002A, 0x00001000, 0x6000800C, 0x00809000, 0x00800000] =
        { cell := 12, round := 42, base := 0x1000, format := some .s16, dims := 2, inner := 4, middle := 3, outer := 1
          step := 1, middleEntry := 2, outerEntry := 0, prescale := 0, priority := 1, hold := false }
      ∧ portCheck [0x2A0C002A, 0x00001000, 0x6000800C, 0x00809001, 0x00800000] = some 3
      ∧ portFaultValue 3 = 0x80000003
      ∧ contributeFieldFault [0x2A0C002A, 0x00001000, 0x5000800C, 0x00809000, 0x00800000] = true
      ∧ contributeFieldFault [0x2A0C002A, 0x00001000, 0x5000800C, 0x00808000, 0x00800000] = false
      ∧ contributeShapeFault [0x2A0C002A, 0x00001000, 0x5000800C, 0x00808000, 0x00800000] = true := by
  decide

/-! ### Witnesses: the queue of commands and the clock -/

/-- StepTakesTheFrontCommand: a queue with a command at its front. -/
theorem test_hyp_StepTakesTheFrontCommand :
    ({ State.reset with pending := [.tick, .dispatch] } : State).pending = .tick :: [.dispatch] := rfl

/-- ExecKeepsTheCommandQueue: a command that answers a next state. -/
theorem test_hyp_ExecKeepsTheCommandQueue :
    exec .tick { State.reset with pending := [.dispatch] } =
      .next (State.issueTick { State.reset with pending := [.dispatch] }).settle := rfl

/-- EmptyQueueCountsOneClockPeriod: in a device reset; one period before the tick; at the tick. -/
theorem test_hyp_EmptyQueueCountsOneClockPeriod :
    (let s : State := { State.reset with deviceReset := true };
          s.pending = [] ∧ s.deviceReset = true)
      ∧ (let s : State := { State.reset with tickCounter := 18 };
          s.pending = [] ∧ s.deviceReset = false ∧ s.tickCounter + 1 < s.periods)
      ∧ (let s : State := { State.reset with tickCounter := 19 };
          s.pending = [] ∧ s.deviceReset = false ∧ s.periods ≤ s.tickCounter + 1) := by
  decide

/-- EventsNotThereAreRefused: the reset state, where no message is on its way; the same with the device reset input
asserted, with a reset line held, with a held write, with a grant made; timers with two ticks left and stopped ones. -/
theorem test_hyp_EventsNotThereAreRefused :
    let s := State.reset
    (∀ words, ¬handedOver s 0 1 words)
      ∧ (∀ words code value, s.ports[(0 : HostId)].framing ≠ .delivering words (.decided code value))
      ∧ (s.ports[(0 : HostId)].lineHeld = false ∧ s.deviceReset = false ∧ s.ports[(0 : HostId)].acksReturned = 0
        ∧ s.ports[(0 : HostId)].lossNotices = 0 ∧ s.ports[(0 : HostId)].removals = 0
        ∧ s.ports[(0 : HostId)].cuts[(3 : UnitId)] = 0 ∧ s.cancels = [] ∧ s.walkReports = []
        ∧ s.publicationReports = [] ∧ s.grant = none
        ∧ s.answers[placeSlot 3 3] = none ∧ s.answers[publisherSlot] = none
        ∧ s.deadlineTicks[(63 : CellId)] = 0 ∧ s.responseTicks[(16 : SlotId)] = 0)
      ∧ ({ s with deviceReset := true } : State).deviceReset = true
      ∧ ({ HostPort.reset with lineHeld := true } : HostPort).lineHeld = true
      ∧ (handing s 0 [0x52010000]).ports[(0 : HostId)].framing = .delivering [0x52010000] .handed
      ∧ ({ s with grant := some { requester := .publisher, withdrawn := true } } : State).grant ≠ none
      ∧ (∀ r, (cellOne opened).cells[(1 : CellId)].round = some r →
        r.timeout = 0 ∨ (r.phase ≠ .collecting ∧ r.phase ≠ .absorbing) ∨ 2 ≤ r.deadline)
      ∧ 1 ≤ (State.issueTick (cellOne opened)).deadlineTicks[(1 : CellId)]
      ∧ (TagSlot.reset.outstanding = false ∨ 2 ≤ TagSlot.reset.timer)
      ∧ (let slot : TagSlot := { outstanding := true, sequence := 0, timer := 2 };
          slot.outstanding = false ∨ 2 ≤ slot.timer) := by
  have hf : State.reset.ports[(0 : HostId)].framing = .empty := by decide +kernel
  have hr : (cellOne opened).cells[(1 : CellId)].round = some opened := by simp [cellOne]
  refine ⟨?_, ?_, by decide +kernel, rfl, rfl, by decide +kernel, by decide, ?_, by decide +kernel, by decide, by decide⟩
  · rintro words ⟨h, -⟩
    cases hf.symm.trans h
  · intro words code value h
    cases hf.symm.trans h
  · intro r h
    cases hr.symm.trans h
    decide

/-! ### Witnesses: layouts -/

/-- OpenWordsDecodeByTheirBits: settings at the ends of their encodings, and an encoding that names none. -/
theorem test_hyp_OpenWordsDecodeByTheirBits :
    (decodeOpen [0x18010003, 0x00000000, 0, 0]).settings = some plain
      ∧ (decodeOpen [0x18010003, 0xA96C0000, 0, 0]).settings =
        some
          { combine :=
              { operation := .min, overflow := .trap, voidPolicy := .trap, rounding := .nearest
                precisionReporting := true }
            output := .trap, width := .w48, postShift := 16 }
      ∧ (decodeOpen [0x18010003, 0x04000000, 0, 0]).settings = none := by
  decide

/-- PortCheckPassesByLengthAndReservedBits: one first word for each code, and a word with a reserved bit set. -/
theorem test_hyp_PortCheckPassesByLengthAndReservedBits :
    (0x18010003 : Word).extractLsb' 28 4 = 1#4 ∧ (0x2A0C002A : Word).extractLsb' 28 4 = 2#4
      ∧ (0x32010001 : Word).extractLsb' 28 4 = 3#4 ∧ (0x43010001 : Word).extractLsb' 28 4 = 4#4
      ∧ (0x52010000 : Word).extractLsb' 28 4 = 5#4 ∧ (0x62010000 : Word).extractLsb' 28 4 = 6#4
      ∧ (0x74000005 : Word).extractLsb' 28 4 = 7#4 ∧ (0x82000005 : Word).extractLsb' 28 4 = 8#4
      ∧ codeLength (commandCode ([0x72000005, 0] : List Word).head!) ≠ some (bitField 0x72000005 27 25)
      ∧ codeLength (commandCode 0x74000015) = some (bitField 0x74000015 27 25)
      ∧ portCheck [0x74000015, 0] = some 0 := by
  decide

/-- NoticeWordsFollowTheirLayout: a notice with a status and an element, a wait notice, a record with no element. -/
theorem test_hyp_NoticeWordsFollowTheirLayout :
    ∃ n m : Notice,
      (n.kind = .contributionEnd (some .dropped) ∧ ContributionStatus.dropped ≠ .pending
          ∧ ∃ f e, n.fault = some f ∧ f.element = some e)
        ∧ m.kind = .waitEnd ∧ ∃ f, m.fault = some f ∧ f.element = none :=
  ⟨{ kind := .contributionEnd (some .dropped), cell := 63, number := 65535, outcome := some .faulted
     publication := some .written, result := 0, combined := 0, voids := 0, flags := noFlags
     fault := some { kind := .busError, element := some { host := 3, index := 16777215, address := 4 } } },
   { kind := .waitEnd, cell := 0, number := 0, outcome := some .faulted, publication := none, result := 0
     combined := 0, voids := 0, flags := noFlags, fault := some { kind := .resultRange, element := none } },
   ⟨rfl, by decide, _, _, rfl, rfl⟩, rfl, _, rfl, rfl⟩

/-- ReportWordsFollowTheirLayout: an absent and a present accumulator; a fault record with element items and one without. -/
theorem test_hyp_ReportWordsFollowTheirLayout :
    let f : FaultRecord := { kind := .busTimeout, element := some { host := 3, index := 16777215, address := 4 } }
    ({ opened with accumulator := none } : Round).accumulator = none
      ∧ ({ opened with accumulator := some (-5) } : Round).accumulator = some (-5)
      ∧ ({ opened with fault := some f } : Round).fault = some f ∧ f.element ≠ none
      ∧ ({ f with element := none } : FaultRecord).element = none := by
  decide

/-- PublicationRecordHoldsTheRound: a value and a VOID, with the greatest tally of 32 bits. -/
theorem test_hyp_PublicationRecordHoldsTheRound :
    let r : Round :=
      { opened with
        tallies := { Tallies.zero with combined := 4294967295 }
        result := some { value := some (-1), flags := noFlags } }
    r.destination = some 0x10000 ∧ r.result = some { value := some (-1), flags := noFlags }
      ∧ r.tallies.combined < 2 ^ 32
      ∧ ({ r with result := some { value := none, flags := noFlags } } : Round).result.bind (·.value) = none := by
  decide

/-! ### Witnesses: arithmetic and walks -/

/-- PrescaleMultipliesOrRounds: prescales 0, 15, −1 and −16, an exact division, a tie, a largest element. -/
theorem test_hyp_PrescaleMultipliesOrRounds :
    ((0 : Int) ≤ 0 ∧ (0 : Int) ≤ 15) ∧ ((0 : Int) ≤ 15 ∧ (15 : Int) ≤ 15) ∧ |(2147483647 : Int)| ≤ 2147483647
      ∧ (1 ≤ 1 ∧ 1 ≤ 16 ∧ (2 ^ 1 : Int) ∣ 6) ∧ (1 ≤ 16 ∧ 16 ≤ 16 ∧ (2 ^ 16 : Int) ∣ -65536)
      ∧ 2 * |(-6 : Int) - prescaled .nearest (-2) (-6) * 2 ^ 2| = 2 ^ 2 := by
  decide

/-- VoidAndPrecisionLossAreSettledFirst: a VOID under both policies, a loss under both reportings, neither. -/
theorem test_hyp_VoidAndPrecisionLossAreSettledFirst :
    ((-128 : Int) = -128 ∧ plain.combine.voidPolicy = .skip)
      ∧ ((-32768 : Int) = -32768 ∧ ({ plain.combine with voidPolicy := .trap } : CombineSettings).voidPolicy = .trap)
      ∧ ((7 : Int) ≠ -128 ∧ ((-1 : Int) < 0 ∧ ¬(2 : Int) ^ (- -1 : Int).toNat ∣ 7)
        ∧ ({ plain.combine with precisionReporting := true } : CombineSettings).precisionReporting = true
        ∧ plain.combine.precisionReporting = false)
      ∧ ((6 : Int) ≠ -128 ∧ ¬((-1 : Int) < 0 ∧ ¬(2 : Int) ^ (- -1 : Int).toNat ∣ 6)) := by
  decide

/-- SumOverflowIsSettledByThePolicy: the last sum in range and the first outside it, under each policy. -/
theorem test_hyp_SumOverflowIsSettledByThePolicy :
    (plain.combine.operation = .sum ∧ -(2 ^ 47) ≤ (2 ^ 47 - 2 : Int) ∧ (2 ^ 47 - 2 : Int) ≤ 2 ^ 47 - 1
        ∧ |(1 : Int)| < 2 ^ 46 ∧ |(2 ^ 47 - 2 : Int) + 1| ≤ 2 ^ 47 - 1)
      ∧ (|(2 : Int)| < 2 ^ 46 ∧ 2 ^ 47 - 1 < |(2 ^ 47 - 2 : Int) + 2|)
      ∧ (-(2 ^ 47) ≤ (-(2 ^ 47) : Int) ∧ |(0 : Int)| < 2 ^ 46 ∧ 2 ^ 47 - 1 < |(-(2 ^ 47) : Int) + 0|)
      ∧ (plain.combine.overflow = .saturate
        ∧ ({ plain.combine with overflow := .wrap } : CombineSettings).overflow = .wrap
        ∧ ({ plain.combine with overflow := .trap } : CombineSettings).overflow = .trap) := by
  decide

/-- MaxAndMinAreOrderFree: two orders of three elements under MAX and under MIN. -/
theorem test_hyp_MaxAndMinAreOrderFree :
    ({ plain.combine with operation := .max } : CombineSettings).operation ≠ .sum
      ∧ ({ plain.combine with operation := .min } : CombineSettings).operation ≠ .sum
      ∧ ([5, -3, 5] : List Int).Perm [5, 5, -3] ∧ ([5, -3, 5] : List Int) ≠ [] := by
  decide

/-- OutputStageShiftsAndChecksTheRange: a lossy shift reported and counted; in range, clamped, trapped. -/
theorem test_hyp_OutputStageShiftsAndChecksTheRange :
    (1 ≤ 2 ∧ ¬(2 : Int) ^ 2 ∣ 7)
      ∧ ({ plain.combine with precisionReporting := true } : CombineSettings).precisionReporting = true
      ∧ ¬((1 ≤ 2 ∧ ¬(2 : Int) ^ 2 ∣ 7) ∧ plain.combine.precisionReporting = true)
      ∧ |(2147483647 : Int)| ≤ 2147483647 ∧ (2147483647 : Int) < |(-2147483648 : Int)| ∧ plain.output = .saturate
      ∧ ({ plain with output := .trap } : Settings).output = .trap
      ∧ (1 ≤ 16 ∧ 16 ≤ 16 ∧ -(2 ^ 47) ≤ (-(2 ^ 47) : Int) ∧ (-(2 ^ 47) : Int) ≤ 2 ^ 47 - 1) := by
  decide

/-- GeneratorFollowsTheClosedForm: the block of section 4.6.3, its last element and the one after. -/
theorem test_hyp_GeneratorFollowsTheClosedForm :
    shapeSound block ∧ 11 < block.inner * block.middle * block.outer
      ∧ block.inner * block.middle * block.outer ≤ 12 := by
  unfold shapeSound
  decide

/-- EveryElementAddressIsAligned: the same block, which passes the alignment test. -/
theorem test_hyp_EveryElementAddressIsAligned : shapeSound block ∧ misaligned blockStrides block = false := by
  unfold shapeSound
  decide +kernel

/-! ### Witnesses: host ports -/

/-- CommandWordsAreFramed: EMPTY with the codes at the ends of each range; ASSEMBLING before the last word and at it; each
completed command both passed and refused. -/
theorem test_hyp_CommandWordsAreFramed :
    State.reset.ports[0].lineHeld = false ∧ State.reset.deviceReset = false ∧ State.reset.ports[0].framing = .empty
      ∧ (((0x00000000 : Word).extractLsb' 28 4).toNat = 0 ∧ 9 ≤ ((0x90000000 : Word).extractLsb' 28 4).toNat
        ∧ 9 ≤ ((0xF0000000 : Word).extractLsb' 28 4).toNat)
      ∧ (((0x18010003 : Word).extractLsb' 28 4).toNat = 1 ∧ ((0x2A0C002A : Word).extractLsb' 28 4).toNat = 2
        ∧ ((0x74000005 : Word).extractLsb' 28 4).toNat = 7)
      ∧ (((0x32010001 : Word).extractLsb' 28 4).toNat = 3 ∧ ((0x62010000 : Word).extractLsb' 28 4).toNat = 6
        ∧ ((0x82000005 : Word).extractLsb' 28 4).toNat = 8
        ∧ portCheck [0x32010001] = none ∧ portCheck [0x30010001] = some 0)
      ∧ ∃ p : HostPort,
        p.framing = .assembling [0x18010003, 0] 4 ∧ p.lineHeld = false
          ∧ ([0x18010003, 0] : List Word).length + 1 ≠ 4
          ∧ ([0x18010003, 0, 0] : List Word).length + 1 = 4
          ∧ portCheck [0x18010003, 0, 0, 0] = none ∧ portCheck [0x18010003, 0, 0x10000, 0] = some 2 :=
  ⟨rfl, rfl, rfl, by decide, by decide, by decide,
    { HostPort.reset with framing := .assembling [0x18010003, 0] 4 }, rfl, rfl, by decide, by decide, by decide,
    by decide⟩

/-- DecisionIsRecordedAndReleasesAWaitingReset: a decision with no reset waiting, with one and with two. -/
theorem test_hyp_DecisionIsRecordedAndReleasesAWaitingReset :
    let p : HostPort := { HostPort.reset with framing := .delivering [0x52010000] (.decided .notHeld 1) }
    p.framing = .delivering [0x52010000] (.decided .notHeld 1) ∧ p.deferredResets = 0
      ∧ ({ p with deferredResets := 1 } : HostPort).framing = .delivering [0x52010000] (.decided .notHeld 1)
      ∧ ({ p with deferredResets := 2 } : HostPort).deferredResets = 2 :=
  ⟨rfl, rfl, rfl, rfl⟩

/-- IgnoredAccessesChangeNothing: a port that delivers nothing, its line held, and the device reset input asserted; a port
that delivers, its line held. -/
theorem test_hyp_IgnoredAccessesChangeNothing :
    let s : State := State.reset.putPort 1 { HostPort.reset with lineHeld := true }
    (∀ words stage, s.ports[(1 : HostId)].framing ≠ .delivering words stage) ∧ s.ports[(1 : HostId)].lineHeld = true
      ∧ ({ s with deviceReset := true } : State).deviceReset = true
      ∧ ({ HostPort.reset with lineHeld := true, framing := .delivering [0x52010000] .handed } : HostPort).lineHeld =
        true :=
  ⟨free_delivers_nothing (by decide +kernel), by decide +kernel, rfl, rfl⟩

/-- A REPORT of the FREE cell C3. -/
def freeReport : Entry :=
  .report { cell := 3, record := { number := 7, round := none } }

/-- ReadsOfThePortWindowReturnTheirWords: a REPORT at its first word and at its last; an empty queue; each framing under
the command view; the other views. -/
theorem test_hyp_ReadsOfThePortWindowReturnTheirWords :
    let q : CompletionQueue := { CompletionQueue.reset with entries := [freeReport] }
    (∀ words stage, State.reset.ports[(0 : HostId)].framing ≠ .delivering words stage)
      ∧ q.entries = freeReport :: [] ∧ State.reset.ports[(0 : HostId)].lineHeld = false ∧ State.reset.deviceReset = false
      ∧ q.cursor + 1 < (entryWords freeReport).length
      ∧ (entryWords freeReport).length ≤ ({ q with cursor := 9 } : CompletionQueue).cursor + 1
      ∧ CompletionQueue.reset.entries = [] ∧ CompletionQueue.reset = withLine CompletionQueue.reset HostPort.reset
      ∧ (HostPort.reset.view = .command ∧ HostPort.reset.framing = .empty)
      ∧ ({ HostPort.reset with framing := .assembling [0x18010003] 4 } : HostPort).framing = .assembling [0x18010003] 4
      ∧ ({ HostPort.reset with framing := .delivering [0x52010000] .held } : HostPort).framing =
        .delivering [0x52010000] .held
      ∧ ({ HostPort.reset with view := .value } : HostPort).view = .value
      ∧ ({ HostPort.reset with view := .queue } : HostPort).view = .queue :=
  ⟨free_delivers_nothing (by decide +kernel), rfl, rfl, rfl, by decide +kernel, by decide +kernel, rfl,
    by decide +kernel, ⟨rfl, rfl⟩, rfl, rfl, rfl, rfl⟩

/-- PortResetClearsThePortAndItsQueue: a word with RESET; a held command; a command with its owner. -/
theorem test_hyp_PortResetClearsThePortAndItsQueue :
    (0x80000000 : Word).getLsbD 31 = true
      ∧ (∀ words stage, State.reset.ports[(2 : HostId)].framing ≠ .delivering words stage)
      ∧ State.reset.ports[(2 : HostId)].lineHeld = false ∧ State.reset.deviceReset = false
      ∧ (∀ words stage,
        ({ HostPort.reset with framing := .delivering [0x52010000] .held } : HostPort).framing = .delivering words stage →
          stage = .held)
      ∧ ({ HostPort.reset with framing := .delivering [0x52010000] .handed } : HostPort).framing =
        .delivering [0x52010000] .handed
      ∧ DeliveryStage.handed ≠ .held := by
  refine ⟨by decide, free_delivers_nothing (by decide +kernel), rfl, rfl, ?_, rfl, by decide⟩
  intro words stage h
  cases h
  rfl

/-- PortControlMakesEveryRequestedAction: a word with every request but RESET, on a port in ASSEMBLING. -/
theorem test_hyp_PortControlMakesEveryRequestedAction :
    let s : State := State.reset.putPort 3 { HostPort.reset with framing := .assembling [0x18010003] 4 }
    (0x4000571F : Word).getLsbD 31 = false
      ∧ (∀ words stage, s.ports[(3 : HostId)].framing ≠ .delivering words stage)
      ∧ s.ports[(3 : HostId)].lineHeld = false ∧ s.deviceReset = false :=
  ⟨by decide, free_delivers_nothing (by decide +kernel), by decide +kernel, rfl⟩

/-- LastAcknowledgementHandsOverTheHeldCommand: the last acknowledgement and the last but one, a held command and none. -/
theorem test_hyp_LastAcknowledgementHandsOverTheHeldCommand :
    let p : HostPort :=
      { HostPort.reset with acksReturned := 1, awaited := 1, framing := .delivering [0x52010000] .held }
    (1 ≤ p.acksReturned ∧ 1 ≤ p.awaited ∧ p.framing = .delivering [0x52010000] .held)
      ∧ 1 ≤ ({ p with awaited := 2 } : HostPort).awaited
      ∧ ∀ words, ({ p with framing := .empty } : HostPort).framing ≠ .delivering words .held :=
  ⟨⟨by decide, by decide, rfl⟩, by decide, fun _ h => nomatch h⟩

/-! ### Witnesses: commands -/

/-- OpenIsCheckedInOrderAndStartsARound: accepted; post-shift 17; destination not on 16 bytes; a cell that is not FREE. -/
theorem test_hyp_OpenIsCheckedInOrderAndStartsARound :
    (∀ s : State, handedOver (handing s 0 [0x18010003, 0x00001000, 5, 0x10000]) 0 1 [0x18010003, 0x00001000, 5, 0x10000])
      ∧ firstRefusal (openChecks [0x18010003, 0x00041000, 5, 0x10000] Cell.reset) = none
      ∧ firstRefusal (openChecks [0x18010003, 0x00045000, 5, 0x10000] Cell.reset) = some .badField
      ∧ firstRefusal (openChecks [0x18010003, 0x00001000, 5, 0x10008] Cell.reset) = some .badAlign
      ∧ firstRefusal (openChecks [0x18010003, 0x00001000, 5, 0x10000] { number := 1, round := some opened }) =
        some .cellBusy :=
  ⟨fun _ => handing_hands (by decide), by decide, by decide, by decide, by decide⟩

/-- A CONTRIBUTE to C1 in round 1: four S16 elements at 0x1000. -/
def contribution : List Word :=
  [0x2A010001, 0x00001000, 0x50008004, 0x00808000, 0x00800000]

/-- ContributeIsQueuedAndBound: a CONTRIBUTE into COLLECTING that passes every check. -/
theorem test_hyp_ContributeIsQueuedAndBound :
    let s := cellOne opened
    handedOver (handing s 0 contribution) 0 2 contribution
      ∧ (decodeContribute contribution).format = some .s16
      ∧ (handing s 0 contribution).cells[(decodeContribute contribution).cell].round = some opened
      ∧ opened.phase = .collecting
      ∧ firstRefusal (contributeChecks (handing s 0 contribution) 0 contribution) = none
      ∧ PriorityLaw (handing s 0 contribution) :=
  ⟨handing_hands (by decide), by decide, by decide +kernel, rfl, by decide +kernel, by decide +kernel⟩

/-- C1 in ABSORBING after a fault, H1 arrived. -/
def absorbing : Round :=
  { opened with
    phase := .absorbing, posted := 0b0010, arrived := 0b0010, outcome := some .faulted
    fault := some { kind := .overflow, element := some { host := 1, index := 2, address := 0x40008 } }
    statuses := opened.statuses.set 1 (some .faulting) }

/-- ContributeIsAbsorbedAfterAFault: H0 is the last to arrive of two, and not the last of three; with a destination and
without, the Publisher busy and idle. -/
theorem test_hyp_ContributeIsAbsorbedAfterAFault :
    let three : Round := { absorbing with participants := 0b1011 }
    let none' : Round := { absorbing with destination := none }
    (∀ s : State, handedOver (handing s 0 contribution) 0 2 contribution)
      ∧ ((handing (cellOne absorbing) 0 contribution).cells[(decodeContribute contribution).cell].round = some absorbing
        ∧ absorbing.phase = .absorbing
        ∧ firstRefusal (contributeChecks (handing (cellOne absorbing) 0 contribution) 0 contribution) = none
        ∧ absorbing.arrived ||| 1#4 <<< (0 : HostId).val = absorbing.participants
        ∧ absorbing.outcome = some .faulted ∧ absorbing.destination ≠ none
        ∧ (cellOne absorbing).publisher = none ∧ (publishing (cellOne absorbing)).publisher ≠ none)
      ∧ (firstRefusal (contributeChecks (handing (cellOne none') 0 contribution) 0 contribution) = none
        ∧ none'.destination = none ∧ LineLaw (cellOne none'))
      ∧ firstRefusal (contributeChecks (handing (cellOne three) 0 contribution) 0 contribution) = none
      ∧ three.arrived ||| 1#4 <<< (0 : HostId).val ≠ three.participants :=
  ⟨fun _ => handing_hands (by decide),
    ⟨by decide +kernel, rfl, by decide +kernel, by decide, rfl, by decide, rfl, by decide +kernel⟩,
    ⟨by decide +kernel, rfl, by decide +kernel⟩, by decide +kernel, by decide⟩

/-- ContributeIsCheckedInOrder: a passed one, and refusals at the first, the middle and the last checks. -/
theorem test_hyp_ContributeIsCheckedInOrder :
    let s := cellOne opened
    let full := s.putQueue 0 { CompletionQueue.reset with reservations := 32 }
    handedOver (handing s 0 contribution) 0 2 contribution
      ∧ firstRefusal (contributeChecks s 0 contribution) = none
      ∧ firstRefusal (contributeChecks s 0 [0x2A010001, 0x1000, 0x50008004, 0x00808000, 0x80000000]) = some .badField
      ∧ firstRefusal (contributeChecks s 0 [0x2A010001, 0x1000, 0x50008008, 0x00808000, 0x00800000]) = some .badShape
      ∧ firstRefusal (contributeChecks State.reset 0 contribution) = some .cellFree
      ∧ firstRefusal (contributeChecks s 2 contribution) = some .notParticipant
      ∧ firstRefusal (contributeChecks s 0 [0x2A010001, 0x1001, 0x50008004, 0x00808000, 0x00800000]) = some .badAlign
      ∧ firstRefusal (contributeChecks full 0 contribution) = some .noCredit :=
  ⟨handing_hands (by decide), by decide +kernel, by decide +kernel, by decide +kernel, by decide +kernel,
    by decide +kernel, by decide +kernel, by decide +kernel⟩

/-- C1 HELD, its round COMPLETE. -/
def heldRound : Round :=
  { opened with
    phase := .held, deadline := 0, outcome := some .complete, publication := some .written
    result := some { value := some 360, flags := noFlags } }

/-- WaitReservesOrIsNoticedAtOnce: refused, reserved in COLLECTING, noticed in HELD. -/
theorem test_hyp_WaitReservesOrIsNoticedAtOnce :
    handedOver (handing (cellOne opened) 2 [0x32010001]) 2 3 [0x32010001]
      ∧ firstRefusal (waitChecks (cellOne opened) 2 [0x32010002]) = some .wrongRound
      ∧ firstRefusal (waitChecks (cellOne opened) 2 [0x32010001]) = none
      ∧ (cellOne opened).cells[commandCell [0x32010001]].round = some opened ∧ opened.phase ≠ .held
      ∧ firstRefusal (waitChecks (cellOne heldRound) 2 [0x32010001]) = none
      ∧ (cellOne heldRound).cells[commandCell [0x32010001]].round = some heldRound ∧ heldRound.phase = .held :=
  ⟨handing_hands (by decide), by decide +kernel, by decide +kernel, by decide +kernel, by decide, by decide +kernel,
    by decide +kernel, rfl⟩

/-- C1 COLLECTING with H0's walk on WU2. -/
def walked : Round :=
  { opened with
    posted := 0b0001, walkInFlight := some 2, inFlightHost := some 0
    statuses := opened.statuses.set 0 (some .pending) }

/-- AbortEndsTheRoundEarly: refused; with a walk in flight; without one, with a destination and without; in ABSORBING. -/
theorem test_hyp_AbortEndsTheRoundEarly :
    let none' : Round := { opened with destination := none }
    (∀ s : State, handedOver (handing s 0 [0x43010001]) 0 4 [0x43010001])
      ∧ firstRefusal (abortChecks (cellOne walked) 1 [0x43010001]) = some .notOpener
      ∧ (firstRefusal (abortChecks (cellOne walked) 0 [0x43010001]) = none
        ∧ (cellOne walked).cells[commandCell [0x43010001]].round = some walked ∧ walked.phase = .collecting
        ∧ walked.walkInFlight = some 2)
      ∧ (firstRefusal (abortChecks (cellOne opened) 0 [0x42010001]) = none
        ∧ (cellOne opened).cells[commandCell [0x42010001]].round = some opened
        ∧ opened.phase = .collecting ∧ opened.walkInFlight = none ∧ opened.destination ≠ none)
      ∧ (firstRefusal (abortChecks (cellOne none') 0 [0x42010001]) = none ∧ none'.destination = none)
      ∧ (firstRefusal (abortChecks (cellOne absorbing) 0 [0x42010001]) = none
        ∧ (cellOne absorbing).cells[commandCell [0x42010001]].round = some absorbing
        ∧ absorbing.phase = .absorbing ∧ absorbing.outcome = some .faulted) :=
  ⟨fun _ => handing_hands (by decide), by decide +kernel, ⟨by decide +kernel, by decide +kernel, rfl, rfl⟩,
    ⟨by decide +kernel, by decide +kernel, rfl, rfl, by decide⟩, ⟨by decide +kernel, rfl⟩,
    by decide +kernel, by decide +kernel, rfl, rfl⟩

/-- ReleaseFreesAHeldCell: released, and refused in COLLECTING. -/
theorem test_hyp_ReleaseFreesAHeldCell :
    handedOver (handing (cellOne heldRound) 0 [0x52010000]) 0 5 [0x52010000]
      ∧ firstRefusal (releaseChecks (cellOne heldRound) 0 [0x52010000]) = none
      ∧ firstRefusal (releaseChecks (cellOne opened) 0 [0x52010000]) = some .notHeld :=
  ⟨handing_hands (by decide), by decide +kernel, by decide +kernel⟩

/-- QueryEntersAReport: the last free place, and none free. -/
theorem test_hyp_QueryEntersAReport :
    handedOver (handing State.reset 3 [0x62010000]) 3 6 [0x62010000]
      ∧ (let q : CompletionQueue := { CompletionQueue.reset with entries := [freeReport], reservations := 30 };
          q.entries.length + q.reservations < 32)
      ∧ (let q : CompletionQueue := { CompletionQueue.reset with entries := [freeReport], reservations := 31 };
          q.entries.length + q.reservations ≥ 32) :=
  ⟨handing_hands (by decide), by decide, by decide⟩

/-- StrideCommandsWriteAndReadTheEntry: the ends of the range, outside it, a referenced entry, and a read. -/
theorem test_hyp_StrideCommandsWriteAndReadTheEntry :
    handedOver (handing State.reset 1 [0x74000005, 0x007FFFFF]) 1 7 [0x74000005, 0x007FFFFF]
      ∧ (-8388608 ≤ (0x007FFFFF : Word).toInt ∧ (0x007FFFFF : Word).toInt ≤ 8388607)
      ∧ ¬(-8388608 ≤ (0x00800000 : Word).toInt ∧ (0x00800000 : Word).toInt ≤ 8388607)
      ∧ ¬(-8388608 ≤ (0xFF7FFFFF : Word).toInt ∧ (0xFF7FFFFF : Word).toInt ≤ 8388607)
      ∧ StrideEntry.reset.count = 0 ∧ 1 ≤ ({ StrideEntry.reset with count := 1 } : StrideEntry).count
      ∧ handedOver (handing State.reset 1 [0x8200000F]) 1 8 [0x8200000F] :=
  ⟨handing_hands (by decide), by decide, by decide, by decide, rfl, by decide, handing_hands (by decide)⟩

/-! ### Witnesses: the events of a cell -/

/-- A report of H0's walk on WU2, for C1 in round 1. -/
def reportOf (kind : ReportKind) : WalkReport :=
  { cell := 1, round := 1, host := 0, unit := 2, kind := kind }

/-- C1 with this record and this report on its way. -/
def reported (r : Round) (kind : ReportKind) : State :=
  { cellOne r with walkReports := [reportOf kind] }

/-- The one report on its way is the first. -/
theorem report_is_first (r : Round) (k : ReportKind) (kind : ReportKind → Bool) (h : kind k = true) :
    firstReport (reported r k) 1 kind (reportOf k) [] :=
  ⟨[], [], rfl, rfl, rfl, h, fun _ hx => nomatch hx⟩

/-- C1 with this record reads as this record. -/
theorem reported_round (r : Round) (k : ReportKind) : (reported r k).cells[(1 : CellId)].round = some r := by
  simp [reported, cellOne]

/-- DoneReportCommitsTheWalk: H0 arrives first of two. -/
theorem test_hyp_DoneReportCommitsTheWalk :
    let k := ReportKind.done (some 100) { Tallies.zero with combined := 4 }
    firstReport (reported walked k) 1 isDone (reportOf k) []
      ∧ (reportOf k).kind = .done (some 100) { Tallies.zero with combined := 4 }
      ∧ (reported walked k).cells[(1 : CellId)].round = some walked ∧ walked.phase = .collecting
      ∧ walked.arrived ||| 1#4 <<< (reportOf k).host.val ≠ walked.participants :=
  ⟨report_is_first _ _ _ rfl, rfl, reported_round _ _, rfl, by decide⟩

/-- C1 COLLECTING with H0's walk, of its only participant, on WU2. -/
def lone : Round :=
  { walked with participants := 0b0001 }

/-- LastDoneCompletesTheRound: H0 arrives last; a result in range, and one outside it under TRAP. -/
theorem test_hyp_LastDoneCompletesTheRound :
    let k := ReportKind.done (some 100) { Tallies.zero with combined := 4 }
    firstReport (reported lone k) 1 isDone (reportOf k) []
      ∧ (reportOf k).kind = .done (some 100) { Tallies.zero with combined := 4 }
      ∧ (reported lone k).cells[(1 : CellId)].round = some lone ∧ lone.phase = .collecting
      ∧ lone.arrived ||| 1#4 <<< (reportOf k).host.val = lone.participants
      ∧ outputStage lone.settings (some 100) { Tallies.zero with combined := 4 } =
        .result (some 100) { Tallies.zero with combined := 4 }
      ∧ outputStage { plain with output := .trap } (some (2 ^ 31)) Tallies.zero = .raised .resultRange :=
  ⟨report_is_first _ _ _ rfl, rfl, reported_round _ _, rfl, by decide, by decide, by decide⟩

/-- FaultReportFaultsTheRound: H0's walk faults; H1 has yet to arrive, and H0 is the only participant. -/
theorem test_hyp_FaultReportFaultsTheRound :
    let k := ReportKind.fault .overflow 2 0x40008
    let faulting (r : Round) : Round :=
      { r with
        outcome := some .faulted
        fault := some { kind := .overflow, element := some { host := 0, index := 2, address := 0x40008 } }
        arrived := r.arrived ||| 1#4 <<< (0 : HostId).val
        statuses := r.statuses.set 0 (some .faulting)
        walkInFlight := none, inFlightHost := none }
    firstReport (reported walked k) 1 isFault (reportOf k) [] ∧ (reportOf k).kind = .fault .overflow 2 0x40008
      ∧ (reported walked k).cells[(1 : CellId)].round = some walked ∧ walked.phase = .collecting
      ∧ ((faulting walked).settlePending .absorbed).arrived ≠ walked.participants
      ∧ ((faulting lone).settlePending .absorbed).arrived = lone.participants :=
  ⟨report_is_first _ _ _ rfl, rfl, reported_round _ _, rfl, by decide, by decide⟩

/-- C1 DRAINING after its deadline, H0's walk in flight. -/
def drainingRound : Round :=
  { walked with phase := .draining, outcome := some .expired, deadline := 0 }

/-- CutIsSetAsideAndAnyReportEndsTheDrain: a CUT in COLLECTING; each kind of report in DRAINING. -/
theorem test_hyp_CutIsSetAsideAndAnyReportEndsTheDrain :
    (firstReport (reported walked .cut) 1 isCut (reportOf .cut) []
        ∧ (reported walked .cut).cells[(1 : CellId)].round = some walked ∧ walked.phase = .collecting)
      ∧ (drainingRound.phase = .draining ∧ drainingRound.outcome ≠ some .complete
        ∧ (reported drainingRound .cut).cells[(1 : CellId)].round = some drainingRound)
      ∧ firstReport (reported drainingRound .cut) 1 isCut (reportOf .cut) []
      ∧ firstReport (reported drainingRound (.done none Tallies.zero)) 1 isDone (reportOf (.done none Tallies.zero)) []
      ∧ firstReport (reported drainingRound (.fault .busError 0 0)) 1 isFault (reportOf (.fault .busError 0 0)) [] :=
  ⟨⟨report_is_first _ _ _ rfl, reported_round _ _, rfl⟩, ⟨rfl, by decide, reported_round _ _⟩,
    report_is_first _ _ _ rfl, report_is_first _ _ _ rfl, report_is_first _ _ _ rfl⟩

/-- C1 PUBLISHING with both notices of H0 reserved. -/
def publishingRound : Round :=
  { opened with
    phase := .publishing, posted := 0b0011, arrived := 0b0011, deadline := 0, outcome := some .complete
    result := some { value := some 1025, flags := noFlags }, contributionNotices := 0b0001, waitNotices := 0b0001
    statuses := Vector.replicate 4 none |>.set 0 (some .walked) |>.set 1 (some .walked) }

/-- C1 PUBLISHING, the report of its write on its way, and the two places of H0 reserved. -/
def published : State :=
  { (cellOne publishingRound).putQueue 0 { CompletionQueue.reset with reservations := 2 } with
    publicationReports := [{ cell := 1, status := .written }] }

/-- PublicationDonePostsNoticesAndDisposes: two notices for H0, whose reservations stand; the same with none standing. -/
theorem test_hyp_PublicationDonePostsNoticesAndDisposes :
    published.publicationReports = [] ++ { cell := 1, status := .written } :: []
      ∧ (∀ x ∈ ([] : List PublicationReport), x.cell ≠ 1)
      ∧ published.cells[(1 : CellId)].round = some publishingRound ∧ publishingRound.phase = .publishing
      ∧ LineLaw published ∧ LineLaw (published.putQueue 0 CompletionQueue.reset)
      ∧ (noticesOf 1 published.cells[(1 : CellId)].number publishingRound 0).length = published.queues[(0 : HostId)].reservations :=
  ⟨rfl, by simp, by decide +kernel, rfl, by decide +kernel, by decide +kernel, by decide +kernel⟩

/-- DeadlineTickCountsDownAndExpires: a stopped timer, one with two ticks left, and the last tick in each phase. -/
theorem test_hyp_DeadlineTickCountsDownAndExpires :
    (1 ≤ ({ cellOne opened with deadlineTicks := State.reset.deadlineTicks.set 1 1 } : State).deadlineTicks[(1 : CellId)])
      ∧ (∀ r, (cellOne heldRound).cells[(1 : CellId)].round = some r →
        ¬(r.timeout ≠ 0 ∧ (r.phase = .collecting ∨ r.phase = .absorbing)))
      ∧ (opened.timeout ≠ 0 ∧ (opened.phase = .collecting ∨ opened.phase = .absorbing))
      ∧ 2 ≤ ({ opened with deadline := 2 } : Round).deadline ∧ ({ opened with deadline := 1 } : Round).deadline ≤ 1
      ∧ (walked.phase = .collecting ∧ walked.walkInFlight = some 2)
      ∧ (opened.phase = .collecting ∧ opened.walkInFlight = none)
      ∧ (absorbing.phase = .absorbing ∧ absorbing.outcome = some .faulted) := by
  refine ⟨by decide +kernel, ?_, by decide, by decide, by decide, ⟨rfl, rfl⟩, ⟨rfl, rfl⟩, rfl, rfl⟩
  intro r hr
  have h : (cellOne heldRound).cells[(1 : CellId)].round = some heldRound := by simp [cellOne]
  rw [h] at hr
  cases hr
  decide

/-- LossNoticeWithdrawsAndEndsRounds: a loss of H2, which ends no round; a loss of H0, which ends C1's alone, with a walk
in flight, with none, and in ABSORBING. -/
theorem test_hyp_LossNoticeWithdrawsAndEndsRounds :
    let ends (h : HostId) (cell : Cell) : Prop :=
      ∃ r, cell.round = some r ∧ (r.phase = .collecting ∨ r.phase = .absorbing)
        ∧ (r.opener = h ∨ member r.participants h = true ∧ member r.arrived h = false)
    1 ≤ ({ HostPort.reset with lossNotices := 1 } : HostPort).lossNotices
      ∧ (∀ c : CellId, ¬ends 2 (cellOne walked).cells[c])
      ∧ (∀ r ∈ [walked, opened, absorbing],
        (cellOne r).cells[(1 : CellId)].round = some r ∧ ends 0 (cellOne r).cells[(1 : CellId)]
          ∧ ∀ d : CellId, d ≠ 1 → ¬ends 0 (cellOne r).cells[d])
      ∧ (walked.phase = .collecting ∧ walked.walkInFlight = some 2)
      ∧ (opened.phase = .collecting ∧ opened.walkInFlight = none)
      ∧ (absorbing.phase = .absorbing ∧ absorbing.outcome = some .faulted) := by
  intro ends
  have h1 : ∀ r : Round, (cellOne r).cells[(1 : CellId)].round = some r := fun r => by simp [cellOne]
  have h0 : ∀ (r : Round) (d : CellId), d ≠ 1 → (cellOne r).cells[d].round = none := by
    intro r d hd
    have hv : ¬1 = d.val := fun hh => hd (Fin.ext hh.symm)
    simp [cellOne, State.reset, Cell.reset, hv]
  refine ⟨by decide, ?_, ?_, ⟨rfl, rfl⟩, ⟨rfl, rfl⟩, rfl, rfl⟩
  · rintro c ⟨r, hr, -, hh⟩
    by_cases hc : c = 1
    · subst hc
      cases (h1 walked).symm.trans hr
      revert hh
      decide
    · cases (h0 walked c hc).symm.trans hr
  · intro r hm
    refine ⟨h1 r, ⟨r, h1 r, ?_⟩, ?_⟩
    · revert r
      decide
    · rintro d hd ⟨q, hq, -⟩
      cases (h0 r d hd).symm.trans hq

/-! ### Witnesses: the Pending Queue, the Dispatcher and the walk units -/

/-- A contribution of H1 to C1: four S16 elements at 0x2000, naming S5. -/
def queued : Contribution :=
  { cell := 1, round := 1, host := 1
    descriptor :=
      { base := 0x2000, format := .s16, dims := 2, inner := 4, middle := 1, outer := 1, step := 1, middleEntry := 5
        outerEntry := 0 }
    prescale := 0, priority := 2, hold := true, refs := [5] }

/-- RemovalTakesOutTheHostsEntries: one entry of H1. -/
theorem test_hyp_RemovalTakesOutTheHostsEntries :
    (1 ≤ ({ HostPort.reset with removals := 1 } : HostPort).removals)
      ∧ (State.reset.enqueue queued).hostCounts[(1 : HostId)] =
        (State.reset.enqueue queued).contributions.countP (fun e => decide (e.host = 1)) := by
  decide +kernel

/-- The walk of that contribution as it begins. -/
def walkOf (e : Contribution) : Walk :=
  { contribution := e, settings := plain.combine }

/-- CancelAndCutEndTheWalkOrAreIgnored: a cancel and a cut that find the contribution, and ones that do not. -/
theorem test_hyp_CancelAndCutEndTheWalkOrAreIgnored :
    let walking : WalkUnit := { WalkUnit.reset with mode := .walking (walkOf queued) }
    ({ unit := 2, cell := 1, round := 1 } : CancelMessage) ∈ [({ unit := 2, cell := 1, round := 1 } : CancelMessage)]
      ∧ (walking.mode = .walking (walkOf queued) ∧ (walkOf queued).contribution.cell = 1
        ∧ (walkOf queued).contribution.round = 1 ∧ (walkOf queued).contribution.host = 1)
      ∧ (∀ walk, WalkUnit.reset.mode = .walking walk → ¬(walk.contribution.cell = 1 ∧ walk.contribution.round = 1))
      ∧ (∀ walk, walking.mode = .walking walk → walk.contribution.host ≠ 0)
      ∧ 1 ≤ ({ HostPort.reset with cuts := Vector.replicate 4 1 } : HostPort).cuts[(2 : UnitId)] := by
  refine ⟨by decide, ⟨rfl, rfl, rfl, rfl⟩, fun _ h => (nomatch h), ?_, by decide⟩
  intro walk h
  cases h
  decide

/-- DispatchPairsTheFirstEligibleEntry: the entry of C1 behind one whose cell has a walk in flight, WU0 busy. -/
theorem test_hyp_DispatchPairsTheFirstEligibleEntry :
    (DispatchLaw State.reset ∧ GrantLaw State.reset) ∧
    let s : State :=
      { (cellOne opened).putCell 2 { number := 1, round := some walked } with
        contributions := [{ queued with cell := 2 }, queued]
        units := State.reset.units.set 0 { WalkUnit.reset with mode := .walking (walkOf { queued with cell := 2 }) } }
    s.contributions = [{ queued with cell := 2 }] ++ queued :: []
      ∧ (∀ x ∈ [{ queued with cell := 2 }], ∀ q, s.cells[x.cell].round = some q → q.walkInFlight ≠ none)
      ∧ s.cells[queued.cell].round = some opened ∧ opened.walkInFlight = none
      ∧ s.units[(1 : UnitId)].mode = .idle ∧ (∀ v : UnitId, v < 1 → s.units[v].mode ≠ .idle) ∧ GrantLaw s := by
  refine ⟨⟨fun _ he => (nomatch he), fun hr => (nomatch hr)⟩, ?_⟩
  intro s
  have h2 : s.cells[(2 : CellId)].round = some walked := by decide +kernel
  refine ⟨rfl, ?_, by decide +kernel, rfl, by decide +kernel, by decide +kernel, fun hr => (nomatch hr)⟩
  intro x hx q hq
  cases List.mem_singleton.mp hx
  cases h2.symm.trans hq
  decide

/-- WU2 walking `queued`, its first element read and outstanding in place 0. -/
def reading : WalkUnit :=
  { mode := .walking (walkOf queued)
    generator := some { address := 0x2002, inner := 1, middle := 0, outer := 0, exhausted := false }
    window := Vector.replicate 4 none |>.set 0 (some { index := 0, address := 0x2000, size := 2, answer := none })
    working := some 0
    tallies := Tallies.zero }

/-- WU2's offer is a read at priority 2. -/
theorem reading_offers : offersRead reading 2 :=
  ⟨walkOf queued, _, rfl, rfl, rfl, rfl, 1, by decide⟩

/-- ReadGrantIssuesTheNextElement: a grant whose offer was withdrawn; a grant with place 0 in use and place 1 empty. -/
theorem test_hyp_ReadGrantIssuesTheNextElement :
    let s : State :=
      { State.reset.putUnit 2 reading with grant := some { requester := .walkUnit 2, withdrawn := false } }
    ({ s with grant := some { requester := .walkUnit 2, withdrawn := true } } : State).grant =
        some { requester := .walkUnit 2, withdrawn := true }
      ∧ s.grant = some { requester := .walkUnit 2, withdrawn := false }
      ∧ s.units[(2 : UnitId)].mode = .walking (walkOf queued)
      ∧ s.units[(2 : UnitId)].generator = some { address := 0x2002, inner := 1, middle := 0, outer := 0, exhausted := false }
      ∧ s.units[(2 : UnitId)].window[(1 : PlaceId)] = none
      ∧ ∀ j : PlaceId, j < 1 → s.units[(2 : UnitId)].window[j] ≠ none := by
  decide +kernel

/-- ArbiterGrantsByRank: the Publisher's offer; two units' offers at one priority, with a HOLD owner and without. -/
theorem test_hyp_ArbiterGrantsByRank :
    let s : State := { (State.reset.putUnit 2 reading).putUnit 0 reading with memoryReady := true }
    (State.reset.memoryReady = false ∧ ({ s with grant := some { requester := .publisher, withdrawn := false } } : State).grant ≠ none)
      ∧ (s.memoryReady = true ∧ s.grant = none) ∧ offersWrite (publishing s) ∧ ¬offersWrite s
      ∧ offersRead s.units[(2 : UnitId)] 2 ∧ offersRead s.units[(0 : UnitId)] 2
      ∧ ({ s with holdOwner := some 2 } : State).holdOwner = some 2
      ∧ ∀ u : UnitId, s.holdOwner = some u → ¬offersRead s.units[u] 2 :=
  ⟨⟨rfl, by decide⟩, ⟨rfl, rfl⟩, ⟨_, rfl, rfl⟩, fun ⟨_, hr, _⟩ => (nomatch hr), reading_offers, reading_offers, rfl,
    fun _ hu => nomatch hu⟩

/-- Section 5.8 (R99): a CONTRIBUTE that its cell can walk is dispatched to WU0 in the event of its insertion. -/
theorem test_contribution_is_dispatched_at_once :
    nextIs (exec (.contribute 0) (handing (cellOne opened) 0 contribution))
      (fun t => t.contributions == [] && (t.cells[1].round.map (·.walkInFlight)) == some (some 0)
        && (t.units[0].mode != .idle) && t.grant == none) = true := by
  decide +kernel

/-- R124: with the memory side ready, that dispatch's offer is granted in the same event. -/
theorem test_offer_is_granted_at_once :
    nextIs (exec (.contribute 0) { handing (cellOne opened) 0 contribution with memoryReady := true })
      (fun t => t.grant == some { requester := .walkUnit 0, withdrawn := false }) = true := by
  decide +kernel

/-- R126: WU0 declines a grant whose offer was withdrawn, and the arbiter grants WU2's offer in that event. -/
theorem test_declined_grant_is_made_afresh :
    nextIs
      (exec (.readGrantTaken 0)
        { State.reset.putUnit 2 reading with
          memoryReady := true, grant := some { requester := .walkUnit 0, withdrawn := true } })
      (fun t => t.grant == some { requester := .walkUnit 2, withdrawn := false } && t.request == none) = true := by
  decide +kernel

/-- PublisherWritesInTwoSteps: a grant for the first write, and each answer at each step. -/
theorem test_hyp_PublisherWritesInTwoSteps :
    let p : PublisherRecord :=
      { cell := 9, destination := 0x10000, firstHalf := 1, secondHalf := 2, step := .firstWrite, waiting := false }
    let s : State := { publishing State.reset with grant := some { requester := .publisher, withdrawn := false } }
    let t : State :=
      { State.reset with
        publisher := some { p with waiting := true }, answers := State.reset.answers.set 16 (some (.ok 0)) }
    (s.publisher = some p ∧ s.grant = some { requester := .publisher, withdrawn := false } ∧ p.waiting = false)
      ∧ (t.publisher = some { p with waiting := true } ∧ t.answers[publisherSlot] = some (.ok 0)
        ∧ p.step = .firstWrite ∧ ({ p with step := .secondWrite } : PublisherRecord).step = .secondWrite)
      ∧ (Answer.error = .error ∨ Answer.error = .timeout) ∧ (Answer.timeout = .error ∨ Answer.timeout = .timeout)
      ∧ t.publicationQueue = [] ∧ ({ t with publicationQueue := [4] } : State).publicationQueue = 4 :: [] := by
  decide +kernel

/-- ResponseMatchesOrIsDiscarded: slot 16 with its sequence number; slot 17, which names none; a stale epoch. -/
theorem test_hyp_ResponseMatchesOrIsDiscarded :
    let s := State.reset.putSlot 16 { outstanding := true, sequence := 15, timer := 200 }
    let tag := makeTag 16 15 false
    ((tag.extractLsb' 0 5).toNat = (16 : SlotId).val ∧ s.slots[(16 : SlotId)].outstanding = true
        ∧ s.slots[(16 : SlotId)].sequence = tag.extractLsb' 5 4 ∧ tag.getLsbD 9 = s.epoch)
      ∧ (∀ k : SlotId, ((17 : BitVec 10).extractLsb' 0 5).toNat = k.val →
        ¬(s.slots[k].outstanding = true ∧ s.slots[k].sequence = (17 : BitVec 10).extractLsb' 5 4
          ∧ (17 : BitVec 10).getLsbD 9 = s.epoch))
      ∧ ∀ k : SlotId, ((makeTag 16 15 true).extractLsb' 0 5).toNat = k.val →
        ¬(s.slots[k].outstanding = true ∧ s.slots[k].sequence = (makeTag 16 15 true).extractLsb' 5 4
          ∧ (makeTag 16 15 true).getLsbD 9 = s.epoch) := by
  decide +kernel

/-- ResponseTimerCountsDownAndTimesOut: a stopped timer, two ticks left, one tick left. -/
theorem test_hyp_ResponseTimerCountsDownAndTimesOut :
    let s := State.reset.putSlot 3 { outstanding := true, sequence := 1, timer := 2 }
    (1 ≤ (State.reset.issueTick).responseTicks[(3 : SlotId)]) ∧ State.reset.slots[(3 : SlotId)].outstanding = false
      ∧ (s.slots[(3 : SlotId)].outstanding = true ∧ 2 ≤ s.slots[(3 : SlotId)].timer)
      ∧ ({ s.slots[(3 : SlotId)] with timer := 1 } : TagSlot).timer ≤ 1 := by
  refine ⟨?_, by decide +kernel, by decide +kernel, by decide +kernel⟩
  simp [State.issueTick]

/-- WU2 with its last element, of index 3, outstanding in place 0, the generator exhausted. -/
def lastReading : WalkUnit :=
  { reading with
    generator := some { address := 0x2006, inner := 3, middle := 0, outer := 0, exhausted := true }
    window := Vector.replicate 4 none |>.set 0 (some { index := 3, address := 0x2006, size := 2, answer := none }) }

/-- The places of a window in walk order: `ready` answered, with `a` for place `k`, and the head of `rest` not. -/
def windowSplit (window : Vector (Option Place) 4) (k : PlaceId) (a : Answer) (ready rest : List PlaceId) : Prop :=
  let answerAt (j : PlaceId) : Option Answer := if j = k then some a else window[j].bind (·.answer)
  let indexAt (j : PlaceId) : Nat := (window[j].map (·.index)).getD 0
  (∀ j : PlaceId, window[j] ≠ none ↔ j ∈ ready ++ rest)
    ∧ (ready ++ rest).Pairwise (fun i j => indexAt i < indexAt j)
    ∧ (∀ j ∈ ready, answerAt j ≠ none) ∧ ∀ j, rest.head? = some j → answerAt j = none

/-- AnswersAreTreatedInWalkOrder: STOPPING; an answer behind the head; an answer at the head with one answered behind it;
the last element; a head that raises. -/
theorem test_hyp_AnswersAreTreatedInWalkOrder :
    let place : Place := { index := 1, address := 0x2002, size := 2, answer := none }
    let behind : Vector (Option Place) 4 := reading.window.set 1 (some place)
    let answered : Vector (Option Place) 4 := reading.window.set 1 (some { place with answer := some .error })
    let format := (walkOf queued).contribution.descriptor.format
    ({ reading with mode := .stopping } : WalkUnit).mode = .stopping
      ∧ (reading.mode = .walking (walkOf queued) ∧ behind[(1 : PlaceId)] = some place)
      ∧ windowSplit behind 1 (.ok 0) [] [0, 1] ∧ windowSplit behind 0 (.ok 0) [0] [1]
      ∧ windowSplit answered 0 (.ok 0) [0, 1] [] ∧ windowSplit lastReading.window 0 (.ok 0) [0] []
      ∧ (∀ g, lastReading.generator = some g → g.exhausted = true)
      ∧ treatInOrder (walkOf queued) lastReading.working lastReading.tallies
          [({ index := 3, address := 0x2006, size := 2, answer := none }, .ok 0x0005000000000000)] =
        .ok (some 5, { Tallies.zero with combined := 1 })
      ∧ treatAnswer plain.combine format 0 (some 0) Tallies.zero 0x2000 2 .timeout = .raised .busTimeout := by
  refine ⟨rfl, by decide +kernel, ?_, ?_, ?_, ?_, ?_, rfl, rfl⟩
  · unfold windowSplit
    decide +kernel
  · unfold windowSplit
    decide +kernel
  · unfold windowSplit
    decide +kernel
  · unfold windowSplit
    decide +kernel
  · intro g h
    cases h
    rfl

/-- TickAndReleaseOfTheTimebase: the device reset input released and asserted. -/
theorem test_hyp_TickAndReleaseOfTheTimebase :
    State.reset.deviceReset = false ∧ ({ State.reset with deviceReset := true } : State).deviceReset = true :=
  ⟨rfl, rfl⟩

/-- DeviceResetReturnsEveryBlock: a state that is not the reset state, its input released. -/
theorem test_hyp_DeviceResetReturnsEveryBlock : published.deviceReset = false ∧ published ≠ State.reset := by
  decide +kernel

/-! ### Witnesses: the laws, on a state with every block at work -/

/-- H0's contribution to C1, with the fields of `queued`. -/
def inFlight : Contribution :=
  { queued with host := 0 }

/-- WU2 walking it, its first element outstanding. -/
def busyUnit : WalkUnit :=
  { reading with mode := .walking (walkOf inFlight) }

/-- C1 COLLECTING: H0's walk on WU2, H1's entry queued, H0 waiting for the round as well. -/
def busyRound : Round :=
  { walked with
    posted := 0b0011, deadline := 3, contributionNotices := 0b0011, waitNotices := 0b0001
    statuses := Vector.replicate 4 none |>.set 0 (some .pending) |>.set 1 (some .pending) }

/-- C9 PUBLISHING, at the Publisher. -/
def busyPublished : Round :=
  { publishingRound with waitNotices := 0 }

/-- WU2 walks for C1 with a grant standing and the HOLD, H1's entry waits, C9 is being written, C3 is HELD, H2's port
reset is in progress, H1's RELEASE is with the Cell Table, H3's port is in ASSEMBLING; WU2's grant is to be taken next. -/
def busy : State :=
  { State.reset with
    pending := [.readGrantTaken 2]
    ports := State.reset.ports
      |>.set 1 { HostPort.reset with framing := .delivering [0x52030000] .handed }
      |>.set 2
        { HostPort.reset with awaited := 6, lossNotices := 1, removals := 1, cuts := Vector.replicate 4 1 }
      |>.set 3 { HostPort.reset with framing := .assembling [0x18010003] 4 }
    queues := State.reset.queues
      |>.set 0 { CompletionQueue.reset with reservations := 3 }
      |>.set 1 { CompletionQueue.reset with entries := [freeReport], reservations := 1 }
    cells := State.reset.cells
      |>.set 1 { number := 1, round := some busyRound }
      |>.set 3 { number := 8, round := some heldRound }
      |>.set 9 { number := 2, round := some busyPublished }
    strides := State.reset.strides |>.set 5 { value := -28, count := 2, writer := some 2 }
    contributions := [queued]
    hostCounts := State.reset.hostCounts |>.set 1 1
    units := State.reset.units |>.set 2 busyUnit
    publisher := some
      { cell := 9, destination := 0x10000, firstHalf := 1025, secondHalf := 1, step := .firstWrite, waiting := true }
    slots := State.reset.slots
      |>.set 8 { outstanding := true, sequence := 1, timer := 150 }
      |>.set 16 { outstanding := true, sequence := 4, timer := 1 }
    holdOwner := some 2
    grant := some { requester := .walkUnit 2, withdrawn := false }
    tickCounter := 19 }

/-- The rounds of the busy state. -/
theorem busy_rounds (c : CellId) (r : Round) (h : busy.cells[c].round = some r) :
    (c = 1 ∧ r = busyRound) ∨ (c = 3 ∧ r = heldRound) ∨ (c = 9 ∧ r = busyPublished) := by
  have hc : ∀ c : CellId, c = 1 ∨ c = 3 ∨ c = 9 ∨ busy.cells[c].round = none := by decide +kernel
  have h1 : busy.cells[(1 : CellId)].round = some busyRound := by decide +kernel
  have h3 : busy.cells[(3 : CellId)].round = some heldRound := by decide +kernel
  have h9 : busy.cells[(9 : CellId)].round = some busyPublished := by decide +kernel
  rcases hc c with rfl | rfl | rfl | hn
  · cases h1.symm.trans h
    exact Or.inl ⟨rfl, rfl⟩
  · cases h3.symm.trans h
    exact Or.inr (Or.inl ⟨rfl, rfl⟩)
  · cases h9.symm.trans h
    exact Or.inr (Or.inr ⟨rfl, rfl⟩)
  · cases hn.symm.trans h

/-- The units of the busy state. -/
theorem busy_units : busy.units[(2 : UnitId)] = busyUnit ∧ ∀ w : UnitId, w ≠ 2 → busy.units[w] = WalkUnit.reset := by
  decide +kernel

/-- The busy state takes a step. -/
theorem test_busy_steps : ∃ t, step busy = .next t :=
  ⟨_, rfl⟩

/-- The laws that count, on the busy state. -/
theorem test_busy_counting_laws :
    CreditLaw busy ∧ LineLaw busy ∧ NoticeLaw busy ∧ StrideLaw busy ∧ StrideRangeLaw busy ∧ QueueLaw busy
      ∧ PriorityLaw busy ∧ SlotLaw busy ∧ TimebaseLaw busy := by
  decide +kernel

theorem test_busy_framing : FramingLaw busy := by
  have h : ∀ h : HostId, busy.ports[h].deferredResets = 0 := by decide +kernel
  have hw : ∀ h : HostId, wordsSound busy.ports[h] := by
    have h0 : wordsSound busy.ports[(0 : HostId)] := trivial
    have h1 : wordsSound busy.ports[(1 : HostId)] := ⟨by decide, by decide, by decide +kernel⟩
    have h2 : wordsSound busy.ports[(2 : HostId)] := trivial
    have h3 : wordsSound busy.ports[(3 : HostId)] := ⟨by decide, by decide, by decide⟩
    exact forall_place.mpr ⟨h0, h1, h2, h3⟩
  exact fun g => ⟨hw g, fun hn => absurd (h g) hn⟩

theorem test_busy_window : WindowLaw busy := by
  intro w
  by_cases hw : w = 2
  · subst hw
    rw [busy_units.1]
    intro k p hp
    have : headPlace busyUnit.window = some (0, { index := 0, address := 0x2000, size := 2, answer := none }) := by
      decide +kernel
    cases this.symm.trans hp
    rfl
  · rw [busy_units.2 w hw]
    show ∀ k : PlaceId, WalkUnit.reset.window[k] = none
    decide +kernel

theorem test_busy_answers : AnswerLaw busy := by
  unfold AnswerLaw answerDue
  decide +kernel

theorem test_busy_arbiter : ArbiterLaw busy := by
  refine ⟨?_, ?_⟩
  · intro g hg _
    cases hg
    decide +kernel
  · intro w hw
    cases hw
    exact ⟨walkOf inFlight, by rw [busy_units.1]; rfl, rfl⟩

theorem test_busy_accumulator : AccumulatorLaw busy := by
  have zero : inRange (some 0) := by
    intro a ha
    cases ha
    decide
  refine ⟨?_, by unfold prescaleSound; decide +kernel, ?_, fun m hm => nomatch hm⟩
  · intro c r hr
    rcases busy_rounds c r hr with ⟨-, rfl⟩ | ⟨-, rfl⟩ | ⟨-, rfl⟩ <;> exact zero
  · intro w
    by_cases hw : w = 2
    · subst hw
      rw [busy_units.1]
      refine ⟨zero, by unfold prescaleSound; decide, ?_⟩
      intro k p hp
      have h : ∀ k : PlaceId, k ≠ 0 → busyUnit.window[k] = none := by decide +kernel
      have h0 : busyUnit.window[(0 : PlaceId)] = some { index := 0, address := 0x2000, size := 2, answer := none } := by
        decide +kernel
      by_cases hk : k = 0
      · subst hk
        cases h0.symm.trans hp
        rfl
      · cases (h k hk).symm.trans hp
    · rw [busy_units.2 w hw]
      trivial

theorem test_busy_outcome : OutcomeLaw busy := by
  intro c r hr
  rcases busy_rounds c r hr with ⟨-, rfl⟩ | ⟨-, rfl⟩ | ⟨-, rfl⟩ <;>
    refine ⟨by decide, by decide, by decide, by decide, by decide, ?_⟩ <;> intro res v hres hv <;> cases hres <;> cases hv <;> decide

theorem test_busy_result : ResultLaw busy := by
  refine ⟨?_, ?_, fun m hm => nomatch hm⟩
  · intro c r hr
    unfold presenceSound resultSound
    rcases busy_rounds c r hr with ⟨-, rfl⟩ | ⟨-, rfl⟩ | ⟨-, rfl⟩ <;>
      refine ⟨by decide, fun res hres => ?_⟩ <;> cases hres <;> decide
  · intro w walk hw r hr
    by_cases h2 : w = 2
    · subst h2
      rw [busy_units.1] at hw ⊢
      cases hw
      have h1 : busy.cells[(walkOf inFlight).contribution.cell].round = some busyRound := by decide +kernel
      cases h1.symm.trans hr
      unfold presenceSound
      decide
    · rw [busy_units.2 w h2] at hw
      cases hw

theorem test_busy_deadline : DeadlineLaw busy := by
  intro c r hr
  rcases busy_rounds c r hr with ⟨-, rfl⟩ | ⟨-, rfl⟩ | ⟨-, rfl⟩ <;> unfold deadlineSound <;> decide

theorem test_busy_publication : PublicationLaw busy := by
  have hp : publishingCells busy = [9] := by decide +kernel
  refine ⟨by rw [hp]; decide, ?_, ?_⟩
  · intro c
    rw [hp, List.mem_singleton]
    constructor
    · rintro rfl
      exact ⟨busyPublished, by decide +kernel, rfl⟩
    · rintro ⟨r, hr, hph⟩
      rcases busy_rounds c r hr with ⟨-, rfl⟩ | ⟨-, rfl⟩ | ⟨rfl, rfl⟩
      · cases hph
      · cases hph
      · rfl
  · intro c r hr _
    rcases busy_rounds c r hr with ⟨-, rfl⟩ | ⟨-, rfl⟩ | ⟨-, rfl⟩ <;> decide

theorem test_busy_rounds : RoundLaw busy := by
  have ht : ∀ c : CellId, cellTokens busy c = if c = 1 then [(1, 1, 0)] else [] := by decide +kernel
  have he : ∀ c : CellId, cellEntries busy c = if c = 1 then [queued] else [] := by decide +kernel
  intro c
  cases hr : busy.cells[c].round with
  | none =>
    have hc : c ≠ 1 := by
      rintro rfl
      have h1 : busy.cells[(1 : CellId)].round = some busyRound := by decide +kernel
      cases h1.symm.trans hr
    exact ⟨by rw [ht, if_neg hc], by rw [he, if_neg hc]⟩
  | some r =>
    show membersSound r ∧ walkLinked busy c r ∧ entriesLinked busy c r
      ∧ (r.phase = .absorbing ∨ r.phase = .publishing ∨ r.phase = .held → r.arrived = r.posted)
    unfold membersSound walkLinked entriesLinked
    rw [ht, he]
    rcases busy_rounds c r hr with ⟨rfl, rfl⟩ | ⟨rfl, rfl⟩ | ⟨rfl, rfl⟩ <;> decide +kernel

theorem test_busy_memberships : MembershipLaw busy := by
  refine ⟨by decide +kernel, ?_⟩
  intro c r hr
  rcases busy_rounds c r hr with ⟨-, rfl⟩ | ⟨-, rfl⟩ | ⟨-, rfl⟩ <;> unfold notifySound <;> decide +kernel

theorem test_hyp_StepKeepsThePortAndCompletionQueueLaws :
    (∃ t, step busy = .next t) ∧ CreditLaw busy ∧ LineLaw busy ∧ NoticeLaw busy ∧ FramingLaw busy :=
  ⟨test_busy_steps, test_busy_counting_laws.1, test_busy_counting_laws.2.1, test_busy_counting_laws.2.2.1,
    test_busy_framing⟩

theorem test_hyp_StepKeepsTheStrideAndPendingQueueLaws :
    (∃ t, step busy = .next t) ∧ StrideLaw busy ∧ StrideRangeLaw busy ∧ QueueLaw busy ∧ PriorityLaw busy :=
  ⟨test_busy_steps, by decide +kernel⟩

theorem test_hyp_StepKeepsTheMemoryPortLaws :
    (∃ t, step busy = .next t) ∧ WindowLaw busy ∧ SlotLaw busy ∧ TimebaseLaw busy ∧ ArbiterLaw busy ∧ AnswerLaw busy :=
  ⟨test_busy_steps, test_busy_window, by decide +kernel, by decide +kernel, test_busy_arbiter, test_busy_answers⟩

theorem test_hyp_StepKeepsTheArithmeticLaws :
    (∃ t, step busy = .next t) ∧ AccumulatorLaw busy ∧ OutcomeLaw busy ∧ DeadlineLaw busy ∧ RoundLaw busy
      ∧ ResultLaw busy :=
  ⟨test_busy_steps, test_busy_accumulator, test_busy_outcome, test_busy_deadline, test_busy_rounds, test_busy_result⟩

theorem test_hyp_StepKeepsTheRoundLaws : (∃ t, step busy = .next t) ∧ RoundLaw busy ∧ PublicationLaw busy :=
  ⟨test_busy_steps, test_busy_rounds, test_busy_publication⟩

theorem test_hyp_StepKeepsAReservationForEveryMembership :
    (∃ t, step busy = .next t) ∧ FramingLaw busy ∧ NoticeLaw busy ∧ RoundLaw busy ∧ MembershipLaw busy :=
  ⟨test_busy_steps, test_busy_framing, by decide +kernel, test_busy_rounds, test_busy_memberships⟩

theorem test_hyp_SoundStatesNeverFault :
    WindowLaw busy ∧ AnswerLaw busy ∧ RoundLaw busy ∧ PublicationLaw busy :=
  ⟨test_busy_window, test_busy_answers, test_busy_rounds, test_busy_publication⟩

/-- StepKeepsTheHistoryLaws: a command that answers a next state, with a latched kind, a referenced entry and a record
at its first write. -/
theorem test_hyp_StepKeepsTheHistoryLaws :
    (∃ t, exec .tick busy = .next t) ∧ 1 ≤ busy.strides[(5 : StrideId)].count
      ∧ ({ CompletionQueue.reset with latch := 0b00010 } : CompletionQueue).latch.getLsbD 1 = true
      ∧ ∃ (s t : State) (p : PublisherRecord),
        exec .publisherAnswer s = .next t ∧ t.publisher = some p ∧ p.step = .secondWrite := by
  refine ⟨⟨_, rfl⟩, by decide +kernel, by decide, ?_⟩
  refine ⟨{ busy with answers := State.reset.answers.set 16 (some (.ok 0)) }, _, _, rfl, rfl, rfl⟩

end Sys2Proof.Tests
end

section
/-! Proofs for the combining arithmetic of chapter 1: the rules of the rounded shift, then one rule for each function that
settles an element, a sum or a result, then the statements. -/

namespace Sys2Proof.Machine

/-! ### The rounded shift (R5, R15)

Both rounding modes are odd in the value. So a rule of the shift is shown for a value of at least 0, where the shift is a
floor division, and holds for the others by symmetry. -/

/-- What the division of R5 leaves is the remainder of the truncating division. -/
theorem shiftRemainder_eq_tmod (x : Int) (k : Nat) : shiftRemainder x k = x.tmod (2 ^ k) := by
  have := Int.mul_tdiv_add_tmod x (2 ^ k)
  rw [shiftRemainder, mul_comm]
  omega

theorem shiftRemainder_eq_zero_iff (x : Int) (k : Nat) : shiftRemainder x k = 0 ↔ (2 : Int) ^ k ∣ x := by
  rw [shiftRemainder_eq_tmod, Int.dvd_iff_tmod_eq_zero]

@[simp] theorem shiftRemainder_neg (x : Int) (k : Nat) : shiftRemainder (-x) k = -shiftRemainder x k := by
  simp only [shiftRemainder_eq_tmod, Int.neg_tmod]

@[simp] theorem roundedShift_neg (mode : Rounding) (x : Int) (k : Nat) :
    roundedShift mode (-x) k = -roundedShift mode x k := by
  cases mode with
  | chop => exact Int.neg_tdiv ..
  | nearest =>
    simp only [roundedShift, shiftRemainder_neg, Int.natAbs_neg, Int.neg_tdiv]
    split
    · rfl
    next hhalf =>
      have hx : x ≠ 0 := by
        rintro rfl
        simp [shiftRemainder] at hhalf
      split <;> split <;> omega

theorem roundedShift_chop_of_nonneg {x : Int} (hx : 0 ≤ x) (k : Nat) : roundedShift .chop x k = x / 2 ^ k :=
  Int.tdiv_eq_ediv_of_nonneg hx

/-- NEAREST on a value of at least 0 is the floor of the quotient after half of the divisor is added. -/
theorem roundedShift_nearest_of_nonneg {x : Int} (hx : 0 ≤ x) (j : Nat) :
    roundedShift .nearest x (j + 1) = (x + 2 ^ j) / 2 ^ (j + 1) := by
  have hhalf : (0 : Int) < 2 ^ j := by positivity
  have hdouble : (2 : Int) ^ (j + 1) = 2 * 2 ^ j := pow_succ' ..
  have hlow := Int.emod_nonneg x (b := 2 ^ (j + 1)) (by omega)
  have hhigh := Int.emod_lt_of_pos x (b := 2 ^ (j + 1)) (by omega)
  have hsplit : x + 2 ^ j = x % 2 ^ (j + 1) + 2 ^ j + 2 ^ (j + 1) * (x / 2 ^ (j + 1)) := by
    have := Int.emod_add_mul_ediv x (2 ^ (j + 1))
    omega
  have hcarry : (x % 2 ^ (j + 1) + 2 ^ j) / 2 ^ (j + 1) = if x % 2 ^ (j + 1) < 2 ^ j then 0 else 1 := by
    rw [Int.ediv_eq_iff_of_pos (by omega)]
    split <;> omega
  rw [hsplit, Int.add_mul_ediv_left _ _ (by omega), hcarry]
  have hnatAbs : (x % 2 ^ (j + 1)).natAbs < 2 ^ j ↔ x % 2 ^ (j + 1) < 2 ^ j := by
    zify
    rw [abs_of_nonneg hlow]
  simp only [roundedShift, shiftRemainder_eq_tmod, Int.tmod_eq_emod_of_nonneg hx, Int.tdiv_eq_ediv_of_nonneg hx,
    Nat.add_sub_cancel, hnatAbs]
  split
  · omega
  next hcarries =>
    have hpos : 0 < x := hx.lt_of_ne (by rintro rfl; simp at hcarries)
    rw [if_pos hpos]
    omega

/-- CHOP truncates toward zero: the quotient has the value's sign and is the largest one not beyond it (R5). -/
theorem roundedShift_chop_spec (x : Int) (k : Nat) :
    |roundedShift .chop x k| * 2 ^ k ≤ |x| ∧ |x| < (|roundedShift .chop x k| + 1) * 2 ^ k
      ∧ 0 ≤ roundedShift .chop x k * x := by
  wlog hx : 0 ≤ x generalizing x
  · simpa using this (-x) (by omega)
  have hpow : (0 : Int) < 2 ^ k := by positivity
  have hquot : 0 ≤ x / 2 ^ k := Int.ediv_nonneg hx hpow.le
  rw [roundedShift_chop_of_nonneg hx, abs_of_nonneg hx, abs_of_nonneg hquot]
  exact ⟨Int.ediv_mul_le x hpow.ne', Int.lt_ediv_add_one_mul_self x hpow, mul_nonneg hquot hx⟩

/-- NEAREST gives the nearest integer, with the value's sign, and takes a tie away from zero (R5). -/
theorem roundedShift_nearest_spec (x : Int) {k : Nat} (hk : 1 ≤ k) :
    2 * |x - roundedShift .nearest x k * 2 ^ k| ≤ 2 ^ k ∧ 0 ≤ roundedShift .nearest x k * x
      ∧ (2 * |x - roundedShift .nearest x k * 2 ^ k| = 2 ^ k → |x| < |roundedShift .nearest x k| * 2 ^ k) := by
  wlog hx : 0 ≤ x generalizing x
  · have hneg := this (-x) (by omega)
    rwa [roundedShift_neg, neg_mul, ← neg_sub', abs_neg, neg_mul_neg, abs_neg, abs_neg] at hneg
  obtain ⟨j, rfl⟩ := Nat.exists_eq_add_of_le' hk
  have hhalf : (0 : Int) < 2 ^ j := by positivity
  have hdouble : (2 : Int) ^ (j + 1) = 2 * 2 ^ j := pow_succ' ..
  rw [roundedShift_nearest_of_nonneg hx]
  have hquot : 0 ≤ (x + 2 ^ j) / 2 ^ (j + 1) := Int.ediv_nonneg (by omega) (by omega)
  have hlow := Int.ediv_mul_le (x + 2 ^ j) (b := 2 ^ (j + 1)) (by omega)
  have hhigh := Int.lt_ediv_add_one_mul_self (x + 2 ^ j) (b := 2 ^ (j + 1)) (by omega)
  rw [add_mul, one_mul] at hhigh
  rw [abs_of_nonneg hx, abs_of_nonneg hquot]
  refine ⟨?_, mul_nonneg hquot hx, fun htie => ?_⟩
  · have hdist : |x - (x + 2 ^ j) / 2 ^ (j + 1) * 2 ^ (j + 1)| ≤ 2 ^ j := abs_le.mpr ⟨by omega, by omega⟩
    omega
  · by_contra hbeyond
    rw [abs_of_nonneg (by omega)] at htie
    omega

/-- A value that 2^k divides has its exact quotient under both modes. -/
theorem roundedShift_of_dvd (mode : Rounding) {x : Int} {k : Nat} (h : (2 : Int) ^ k ∣ x) :
    roundedShift mode x k = x / 2 ^ k := by
  have hrem := (shiftRemainder_eq_zero_iff x k).mpr h
  cases mode <;> simp [roundedShift, hrem, Int.tdiv_eq_ediv_of_dvd h]

/-- A shift by at least one place halves the bound of the value, under both modes. -/
theorem abs_roundedShift_le (mode : Rounding) {x b : Int} {k : Nat} (hk : 1 ≤ k) (hx : |x| ≤ 2 * b) :
    |roundedShift mode x k| ≤ b := by
  wlog hnonneg : 0 ≤ x generalizing x
  · simpa using this (x := -x) (by rwa [abs_neg]) (by omega)
  obtain ⟨j, rfl⟩ := Nat.exists_eq_add_of_le' hk
  have hhalf : (0 : Int) < 2 ^ j := by positivity
  have hdouble : (2 : Int) ^ (j + 1) = 2 * 2 ^ j := pow_succ' ..
  rw [abs_of_nonneg hnonneg] at hx
  have hscale : b ≤ b * 2 ^ j := le_mul_of_one_le_right (by omega) (by omega)
  have hquot : ∀ y, 0 ≤ y → y < 2 * (b * 2 ^ j) + 2 ^ (j + 1) → |y / 2 ^ (j + 1)| ≤ b := by
    intro y hy hlt
    rw [abs_of_nonneg (Int.ediv_nonneg hy (by omega)), ← Int.lt_add_one_iff, Int.ediv_lt_iff_lt_mul (by omega)]
    calc y < 2 * (b * 2 ^ j) + 2 ^ (j + 1) := hlt
      _ = (b + 1) * 2 ^ (j + 1) := by rw [hdouble]; ring
  cases mode with
  | chop => rw [roundedShift_chop_of_nonneg hnonneg]; exact hquot _ hnonneg (by omega)
  | nearest => rw [roundedShift_nearest_of_nonneg hnonneg]; exact hquot _ (by omega) (by omega)

/-! ### Prescale (R4 to R6) -/

theorem prescaled_of_nonneg (mode : Rounding) {s : Int} (hs : 0 ≤ s) (x : Int) :
    prescaled mode s x = x * 2 ^ s.toNat :=
  if_pos hs

theorem prescaled_neg (mode : Rounding) {k : Nat} (hk : 1 ≤ k) (x : Int) :
    prescaled mode (-(k : Int)) x = roundedShift mode x k := by
  rw [prescaled, if_neg (by omega), neg_neg, Int.toNat_natCast]

/-- A precision loss is a negative prescale by a power of two that does not divide the value (R6). -/
theorem prescaleLoses_iff (s x : Int) : prescaleLoses s x = true ↔ s < 0 ∧ ¬(2 : Int) ^ (-s).toNat ∣ x := by
  simp [prescaleLoses, shiftRemainder_eq_zero_iff]

/-- The bound of R4: the largest element value times 2^15. -/
theorem abs_prescaled_le (mode : Rounding) {s x : Int} (hs : 0 ≤ s) (hs' : s ≤ 15) (hx : |x| ≤ 2147483647) :
    |prescaled mode s x| ≤ 70368744144896 := by
  have hpow : (2 : Int) ^ s.toNat ≤ 2 ^ 15 := pow_le_pow_right₀ (by omega) (by omega)
  rw [prescaled_of_nonneg mode hs, abs_mul, abs_of_nonneg (a := (2 : Int) ^ s.toNat) (by positivity)]
  calc |x| * 2 ^ s.toNat ≤ 2147483647 * 2 ^ 15 := by gcongr
    _ = 70368744144896 := by norm_num

/-! ### The treatment of an element (R1 to R3) -/

/-- The element that an address selects is the signed number in `size` bytes of its unit (R1). -/
theorem elementBytes_eq (unit : DataUnit) (address : Addr) (size : Nat) :
    elementBytes unit address size = (unit.extractLsb' (8 * (address.toNat % 8)) (8 * size)).toInt := by
  rw [elementBytes, BitVec.extractLsb', Nat.shiftRight_eq_div_pow]

section
variable (settings : CombineSettings) (format : ElementFormat) (s : Int) (acc : Option Int) (t : Tallies) {x : Int}

theorem treatElement_void_skip (hvoid : x = elementVoid format) (hpolicy : settings.voidPolicy = .skip) :
    treatElement settings format s acc t x = .recorded acc { t with voids := t.voids + 1 } := by
  rw [treatElement, if_pos hvoid, hpolicy]

theorem treatElement_void_trap (hvoid : x = elementVoid format) (hpolicy : settings.voidPolicy = .trap) :
    treatElement settings format s acc t x = .raised .voidOperand := by
  rw [treatElement, if_pos hvoid, hpolicy]

/-- A precision loss raises where it is reported and is counted where it is not (R6). -/
theorem treatElement_lossy (hvoid : x ≠ elementVoid format) (hloses : prescaleLoses s x = true) :
    treatElement settings format s acc t x =
      if settings.precisionReporting then .raised .precision
      else combineValue settings acc (prescaled settings.rounding s x) { t with losses := t.losses + 1 } := by
  rw [treatElement, if_neg hvoid, if_pos hloses]

theorem treatElement_exact (hvoid : x ≠ elementVoid format) (hloses : ¬prescaleLoses s x = true) :
    treatElement settings format s acc t x = combineValue settings acc (prescaled settings.rounding s x) t := by
  rw [treatElement, if_neg hvoid, if_neg hloses]

end

/-! ### SUM (R8, R9) -/

theorem combineValue_sum {settings : CombineSettings} (hsum : settings.operation = .sum) (a v : Int) (t : Tallies) :
    combineValue settings (some a) v t = combineSum settings.overflow a v t := by
  simp only [combineValue, hsum, Option.getD_some]

/-- A value beyond a bound is above it exactly where it is positive. -/
theorem lt_iff_pos_of_lt_abs {m x : Int} (hm : 0 ≤ m) (h : m < |x|) : m < x ↔ 0 < x := by
  rcases lt_abs.mp h with hx | hx <;> omega

section
variable {a v : Int} (t : Tallies)

theorem combineSum_inRange (policy : OverflowPolicy) (h : |a + v| ≤ accumulatorMax) :
    combineSum policy a v t = .recorded (some (a + v)) { t with combined := t.combined + 1 } :=
  if_pos (abs_le.mp h)

theorem combineSum_saturate (h : accumulatorMax < |a + v|) :
    combineSum .saturate a v t =
      .recorded (some (if 0 < a + v then accumulatorMax else -accumulatorMax))
        { t with combined := t.combined + 1, saturations := t.saturations + 1 } := by
  rw [combineSum, if_neg (mt abs_le.mpr h.not_ge)]
  simp only [lt_iff_pos_of_lt_abs (by decide) h]

/-- WRAP reduces an overflowing sum modulo 2^48 into −2^47..2^47−1; a sum of −2^47 stays, and is a wrap too (R9). -/
theorem combineSum_wrap (h : accumulatorMax < |a + v|) (hbound : |a + v| < 2 ^ 47 + 2 ^ 46) :
    ∃ b : Int, combineSum .wrap a v t = .recorded (some b) { t with combined := t.combined + 1, wraps := t.wraps + 1 }
      ∧ -(2 ^ 47) ≤ b ∧ b ≤ 2 ^ 47 - 1 ∧ (2 ^ 48 : Int) ∣ b - (a + v) := by
  have ⟨hlow, hhigh⟩ := abs_lt.mp hbound
  have hout := lt_abs.mp h
  refine ⟨_, if_neg (mt abs_le.mpr h.not_ge), ?_⟩
  unfold accumulatorMax at *
  split
  · omega
  split <;> omega

theorem combineSum_trap (h : accumulatorMax < |a + v|) : combineSum .trap a v t = .raised .overflow :=
  if_neg (mt abs_le.mpr h.not_ge)

end

/-! ### The output stage (R14 to R17) -/

theorem widthMax_nonneg (width : OutputWidth) : 0 ≤ widthMax width := by
  cases width <;> decide

section
variable (settings : Settings) {x : Int} (t : Tallies)

theorem rangeCheck_inRange (h : |x| ≤ widthMax settings.width) : rangeCheck settings x t = .result (some x) t :=
  if_pos (abs_le.mp h)

theorem rangeCheck_saturate (h : widthMax settings.width < |x|) (hpolicy : settings.output = .saturate) :
    rangeCheck settings x t =
      .result (some (if 0 < x then widthMax settings.width else -(widthMax settings.width)))
        { t with saturations := t.saturations + 1 } := by
  rw [rangeCheck, if_neg (mt abs_le.mpr h.not_ge), hpolicy]
  simp only [lt_iff_pos_of_lt_abs (widthMax_nonneg settings.width) h]

theorem rangeCheck_trap (h : widthMax settings.width < |x|) (hpolicy : settings.output = .trap) :
    rangeCheck settings x t = .raised .resultRange := by
  rw [rangeCheck, if_neg (mt abs_le.mpr h.not_ge), hpolicy]

end

/-- The value that the output stage checks: the accumulator, shifted and rounded where the post-shift is not 0. -/
def postShifted (settings : Settings) (a : Int) : Int :=
  if settings.postShift = 0 then a else prescaled settings.combine.rounding (-(settings.postShift : Int)) a

/-- A post-shift is a precision loss where 2^p does not divide the accumulator (R15). -/
theorem outputStage_lossy (settings : Settings) {a : Int} (t : Tallies)
    (hlossy : 1 ≤ settings.postShift ∧ ¬(2 : Int) ^ settings.postShift ∣ a) :
    outputStage settings (some a) t =
      if settings.combine.precisionReporting then .raised .precision
      else rangeCheck settings (postShifted settings a) { t with losses := t.losses + 1 } := by
  obtain ⟨hshift, hdvd⟩ := hlossy
  have hne : settings.postShift ≠ 0 := by omega
  rw [outputStage, if_neg hne, if_neg (mt (shiftRemainder_eq_zero_iff a _).mp hdvd), postShifted, if_neg hne,
    prescaled_neg _ hshift]

theorem outputStage_exact (settings : Settings) {a : Int} (t : Tallies)
    (hexact : ¬(1 ≤ settings.postShift ∧ ¬(2 : Int) ^ settings.postShift ∣ a)) :
    outputStage settings (some a) t = rangeCheck settings (postShifted settings a) t := by
  rw [outputStage, postShifted]
  split
  · rfl
  next hne =>
    have hdvd : (2 : Int) ^ settings.postShift ∣ a := by
      by_contra hdvd
      exact hexact ⟨by omega, hdvd⟩
    rw [if_pos ((shiftRemainder_eq_zero_iff a _).mpr hdvd), prescaled_neg _ (by omega)]

/-- A post-shift by at least one place brings an accumulator within 2^46 (R15). -/
theorem abs_postShifted_le {settings : Settings} {a : Int} (hshift : 1 ≤ settings.postShift) (hlow : -(2 ^ 47) ≤ a)
    (hhigh : a ≤ 2 ^ 47 - 1) : |postShifted settings a| ≤ 2 ^ 46 := by
  rw [postShifted, if_neg (by omega), prescaled_neg _ hshift]
  exact abs_roundedShift_le _ hshift (abs_le.mpr ⟨by omega, by omega⟩)

/-! ### The statements -/

/-- Settles O11: exact multiplication, then the rules of the rounded shift at k = −s. -/
theorem prescaleMultipliesOrRounds : Obligations.PrescaleMultipliesOrRounds := by
  refine ⟨fun mode s x hs hs' => ⟨prescaled_of_nonneg mode hs x, ?_, abs_prescaled_le mode hs hs'⟩, ?_⟩
  · rw [← Bool.not_eq_true, prescaleLoses_iff]
    omega
  intro k x hk _
  simp only [prescaled_neg _ hk]
  refine ⟨roundedShift_chop_spec x k, roundedShift_nearest_spec x hk, ?_,
    fun h => ⟨roundedShift_of_dvd .chop h, roundedShift_of_dvd .nearest h⟩,
    fun hx => ⟨abs_roundedShift_le .chop hk (by omega), abs_roundedShift_le .nearest hk (by omega)⟩⟩
  rw [prescaleLoses_iff, neg_neg, Int.toNat_natCast]
  exact and_iff_right (by omega)

/-- Settles O12: one rule per branch of the treatment, and the bytes that an answer's address selects. -/
theorem voidAndPrecisionLossAreSettledFirst : Obligations.VoidAndPrecisionLossAreSettledFirst := by
  intro settings format s acc t x void loses
  have hvoid : void = elementVoid format := by cases format <;> rfl
  have hloses : loses ↔ prescaleLoses s x = true := (prescaleLoses_iff s x).symm
  clear_value void loses
  subst hvoid
  refine ⟨treatElement_void_skip _ _ _ _ _, treatElement_void_trap _ _ _ _ _, fun hx hloss hreport => ?_,
    fun hx hloss hreport => ?_, fun hx hexact => treatElement_exact _ _ _ _ _ hx (mt hloses.mpr hexact),
    fun address size => ⟨fun unit => ⟨rfl, elementBytes_eq .., elementBytes_eq .., elementBytes_eq ..⟩, rfl, rfl⟩⟩
  · rw [treatElement_lossy _ _ _ _ _ hx (hloses.mp hloss), if_pos hreport]
  · rw [treatElement_lossy _ _ _ _ _ hx (hloses.mp hloss), if_neg (by simp [hreport])]

/-- Settles O13: the sum in range, and outside it one rule per policy. -/
theorem sumOverflowIsSettledByThePolicy : Obligations.SumOverflowIsSettledByThePolicy := by
  intro settings a v t hsum hlow hhigh hv
  have hbound : |a + v| < 2 ^ 47 + 2 ^ 46 :=
    calc |a + v| ≤ |a| + |v| := abs_add_le a v
      _ < 2 ^ 47 + 2 ^ 46 := add_lt_add_of_le_of_lt (abs_le.mpr ⟨hlow, by omega⟩) hv
  simp only [combineValue_sum hsum]
  refine ⟨hbound, combineSum_inRange t _, fun h hpolicy => ?_, fun h hpolicy => ?_, fun h hpolicy => ?_⟩ <;>
    rw [hpolicy]
  · exact combineSum_saturate t h
  · exact combineSum_wrap t h hbound
  · exact combineSum_trap t h

/-- Settles O15: a loss is reported or counted first; the range check settles what is left. -/
theorem outputStageShiftsAndChecksTheRange : Obligations.OutputStageShiftsAndChecksTheRange := by
  intro settings t
  refine ⟨rfl, ?_⟩
  intro a p lossy q top t'
  have hq : q = postShifted settings a := rfl
  have htop : top = widthMax settings.width := by
    cases hwidth : settings.width <;> simp [top, hwidth, widthMax]
  rw [hq, htop]
  refine ⟨fun hlossy hreport => ?_, fun hgo => ?_, fun hshift _ => abs_postShifted_le hshift⟩
  · rw [outputStage_lossy settings t hlossy, if_pos hreport]
  have hstage : outputStage settings (some a) t = rangeCheck settings (postShifted settings a) t' := by
    by_cases hlossy : lossy
    · rw [outputStage_lossy settings t hlossy, if_neg fun hreport => hgo ⟨hlossy, hreport⟩]
      exact congrArg _ (if_pos hlossy).symm
    · rw [outputStage_exact settings t hlossy]
      exact congrArg _ (if_neg hlossy).symm
  rw [hstage]
  exact ⟨rangeCheck_inRange settings t', rangeCheck_saturate settings t', rangeCheck_trap settings t'⟩

end Sys2Proof.Machine
end

section
/-! Proofs for four commands of the Cell Table (OPEN, WAIT, RELEASE, QUERY). For each: the statement's list of checks gives
the model's refusal, then what the command comes to when it is refused and when it is accepted, then the statement. -/

namespace Sys2Proof.Machine

open Sys2Proof.Safety

/-! ### Ordered checks (R25) -/

@[simp] theorem firstRefusal_nil : firstRefusal [] = none := rfl

@[simp] theorem firstRefusal_cons (fails : Bool) (code : StatusCode) (rest : List (Bool × StatusCode)) :
    firstRefusal ((fails, code) :: rest) = if fails then some code else firstRefusal rest := rfl

/-- The check "the cell is not HELD", on a cell that holds a round. -/
theorem not_phaseIn_held_iff {cell : Cell} {r : Round} (hround : cell.round = some r) :
    (!phaseIn cell [.held]) = true ↔ r.phase ≠ .held := by
  simp [phaseIn, hround]

/-! ### The settings of an OPEN (R26 step 1, R170) -/

theorem decodeOperation_isNone (b : BitVec 2) : (decodeOperation b.toNat).isNone = (b == 3) := by
  revert b; decide

theorem decodeOverflow_isNone (b : BitVec 2) : (decodeOverflow b.toNat).isNone = (b == 3) := by
  revert b; decide

theorem decodeOutput_isNone (b : BitVec 2) : (decodeOutput b.toNat).isNone = (b == 1 || b == 3) := by
  revert b; decide

theorem decodeRounding_isNone (b : BitVec 2) : (decodeRounding b.toNat).isNone = decide (2 ≤ b.toNat) := by
  revert b; decide

theorem decodeVoid_isNone (b : BitVec 2) : (decodeVoid b.toNat).isNone = decide (2 ≤ b.toNat) := by
  revert b; decide

theorem decodeWidth_isNone (b : BitVec 2) : (decodeWidth b.toNat).isNone = decide (2 ≤ b.toNat) := by
  revert b; decide

/-- The settings of an OPEN are refused when one of them is, or the post-shift is above 16. -/
theorem decodeSettings_isNone (w : Word) :
    (decodeSettings w).isNone =
      ((decodeOperation (bitField w 31 30)).isNone || (decodeOverflow (bitField w 29 28)).isNone
        || (decodeOutput (bitField w 27 26)).isNone || (decodeRounding (bitField w 25 24)).isNone
        || (decodeVoid (bitField w 23 22)).isNone || (decodeWidth (bitField w 20 19)).isNone
        || decide (17 ≤ bitField w 18 14)) := by
  unfold decodeSettings
  obtain _ | operation := decodeOperation (bitField w 31 30)
  · rfl
  obtain _ | overflow := decodeOverflow (bitField w 29 28)
  · rfl
  obtain _ | output := decodeOutput (bitField w 27 26)
  · rfl
  obtain _ | rounding := decodeRounding (bitField w 25 24)
  · rfl
  obtain _ | voidPolicy := decodeVoid (bitField w 23 22)
  · rfl
  obtain _ | width := decodeWidth (bitField w 20 19)
  · rfl
  by_cases hshift : bitField w 18 14 ≤ 16
  · simp [hshift]; omega
  · simp [hshift]; omega

/-- The conditions of R26's first step on the settings, in the bits of section 10.2. -/
theorem decodeSettings_isNone_bits (w : Word) :
    (decodeSettings w).isNone =
      (w.extractLsb' 30 2 == 3 || w.extractLsb' 28 2 == 3
        || (w.extractLsb' 26 2 == 1 || w.extractLsb' 26 2 == 3)
        || decide (2 ≤ (w.extractLsb' 24 2).toNat) || decide (2 ≤ (w.extractLsb' 22 2).toNat)
        || decide (2 ≤ (w.extractLsb' 19 2).toNat) || decide (17 ≤ (w.extractLsb' 14 5).toNat)) := by
  simp only [decodeSettings_isNone, bitField_eq, decodeOperation_isNone, decodeOverflow_isNone,
    decodeOutput_isNone, decodeRounding_isNone, decodeVoid_isNone, decodeWidth_isNone]

/-! ### OPEN (R26, R27) -/

/-- The checks of OPEN, on the fields that the Cell Table decodes. -/
theorem openChecks_eq (words : List Word) (cell : Cell) :
    openChecks words cell =
      [ ((decodeOpen words).participants == 0 || (decodeOpen words).settings.isNone, .badField),
        ((decodeOpen words).destination.any fun d => decide (d.toNat % 16 ≠ 0), .badAlign),
        (cell.round.isSome, .cellBusy) ] := by
  have hparticipants : (decodeOpen words).participants = (words.getD 0 0).extractLsb' 0 4 := by
    simp only [decodeOpen, bitField_eq, BitVec.ofNat_toNat, BitVec.setWidth_eq]
  have hsettings : (decodeOpen words).settings = decodeSettings (words.getD 1 0) := rfl
  have hdestination : ((decodeOpen words).destination.any fun d => decide (d.toNat % 16 ≠ 0)) =
      ((words.getD 1 0).getLsbD 12 && decide (¬16 ∣ (words.getD 3 0).toNat)) := by
    simp only [decodeOpen, bitSet_eq, Nat.dvd_iff_mod_eq_zero]
    cases (words.getD 1 0).getLsbD 12 <;> rfl
  simp only [openChecks, hparticipants, hsettings, decodeSettings_isNone_bits, hdestination, Bool.or_assoc]

/-- The model's refusal of OPEN is that of the ordered checks (R26). -/
theorem openRefusal_eq (words : List Word) (cell : Cell) :
    openRefusal (decodeOpen words) cell = firstRefusal (openChecks words cell) := by
  simp only [openChecks_eq, firstRefusal_cons, firstRefusal_nil, openRefusal, Bool.or_eq_true, beq_iff_eq]
  by_cases hparticipants : (decodeOpen words).participants = 0
  · simp only [hparticipants, if_true, true_or]
  · simp only [hparticipants, if_false, false_or]

/-- The round that OPEN starts is the new round of R27, the accumulator by R7. -/
theorem freshRound_eq (opener : HostId) (participants : HostSet) (settings : Settings) (repeats : Bool) (timeout : Nat)
    (destination : Option Addr) :
    freshRound opener participants settings repeats false timeout destination =
      newRound opener participants settings repeats timeout destination := by
  unfold freshRound newRound initialAccumulator
  cases settings.combine.operation <;> rfl

theorem takeOpen_refused {s : State} {h : HostId} {words : List Word} {code : StatusCode}
    (hcode : firstRefusal (openChecks words s.cells[commandCell words]) = some code) :
    takeOpen s h words = decisionOnly s h words code (s.cells[commandCell words].number.setWidth 32) := by
  rw [← openRefusal_eq] at hcode
  rw [← refuseCommand_eq, takeOpen]
  simp only [show (decodeOpen words).cell = commandCell words from rfl, hcode]

/-- An OPEN that passes its checks has settings that decode. -/
theorem openRefusal_none_settings {f : OpenFields} {cell : Cell} (h : openRefusal f cell = none) :
    ∃ settings, f.settings = some settings := by
  cases hsettings : f.settings with
  | some settings => exact ⟨settings, rfl⟩
  | none => simp [openRefusal, hsettings] at h

theorem takeOpen_accepted {s : State} {h : HostId} {words : List Word} {settings : Settings} (f : OpenFields)
    (hf : decodeOpen words = f) (hpass : firstRefusal (openChecks words s.cells[f.cell]) = none)
    (hsettings : f.settings = some settings) :
    takeOpen s h words =
      { s with
        cells := s.cells.set f.cell
          { number := s.cells[f.cell].number + 1
            round := some (newRound h f.participants settings f.repeats f.timeout f.destination) }
        ports := s.ports.set h (decided s.ports[h] words .accepted ((s.cells[f.cell].number + 1).setWidth 32)) } := by
  subst hf
  rw [← openRefusal_eq] at hpass
  simp only [takeOpen, hpass, hsettings, freshRound_eq, roundValue_eq]
  rfl

/-- Settles O25: the ordered checks give the model's refusal, and an accepted OPEN writes its cell and its decision. -/
theorem openIsCheckedInOrderAndStartsARound : Obligations.OpenIsCheckedInOrderAndStartsARound := by
  intro s h words f cell hover
  have hexec : exec (.openCell h) s = .next (takeOpen s h words).settle := ownerTakes_handed hover _
  refine ⟨fun code hcode => ?_, fun hpass => ?_⟩
  · rw [hexec, takeOpen_refused hcode]
    rfl
  · obtain ⟨settings, hsettings⟩ := openRefusal_none_settings ((openRefusal_eq words cell).trans hpass)
    exact ⟨settings, hsettings, by rw [hexec, takeOpen_accepted f rfl hpass hsettings]⟩

/-! ### A reservation converted at once (R32, R34) -/

/-- A reservation added and converted at once leaves the entry at the tail and the count of reservations as it was. -/
theorem reserve_enter_eq (s : State) (h : HostId) (e : Entry) :
    (s.reserve h).enter h e =
      { s with
        queues := s.queues.set h
          (withLine
            { s.queues[h] with
              entries := s.queues[h].entries ++ [e], latch := s.queues[h].latch ||| entryLatch e }
            s.ports[h]) } := by
  rw [reserve_eq, enter_eq _ _ _ (by simp [withLine])]
  simp [withLine]

/-! ### WAIT (R31, R32) -/

theorem waitChecks_none {s : State} {words : List Word} (h : HostId)
    (hround : s.cells[commandCell words].round = none) : firstRefusal (waitChecks s h words) = some .cellFree := by
  rw [waitChecks, hround]
  rfl

/-- On a cell that holds a round the ordered checks of WAIT give the model's refusal. -/
theorem waitChecks_some {s : State} {words : List Word} {r : Round} (h : HostId)
    (hround : s.cells[commandCell words].round = some r) :
    firstRefusal (waitChecks s h words) =
      waitRefusal s h (commandRound words) s.cells[commandCell words].number r := by
  simp only [waitChecks, hround, firstRefusal_cons, firstRefusal_nil, Option.isNone_some, Bool.false_eq_true, if_false,
    Option.any_some, Bool.and_eq_true, not_phaseIn_held_iff hround, decide_eq_true_eq, waitRefusal, noCredit]

theorem takeWait_refused {s : State} {h : HostId} {words : List Word} {code : StatusCode}
    (hcode : firstRefusal (waitChecks s h words) = some code) :
    takeWait s h words = decisionOnly s h words code (s.cells[commandCell words].number.setWidth 32) := by
  rw [← refuseCommand_eq, takeWait]
  cases hround : s.cells[commandCell words].round with
  | none =>
    obtain rfl : .cellFree = code := Option.some.inj ((waitChecks_none h hround).symm.trans hcode)
    rfl
  | some r =>
    rw [waitChecks_some h hround] at hcode
    simp only [hcode]

theorem takeWait_accepted {s : State} {h : HostId} {words : List Word} {r : Round}
    (hpass : firstRefusal (waitChecks s h words) = none) (hround : s.cells[commandCell words].round = some r) :
    takeWait s h words =
      decisionOnly (acceptWait s h (commandCell words) r) h words .accepted
        (s.cells[commandCell words].number.setWidth 32) := by
  rw [waitChecks_some h hround] at hpass
  simp only [takeWait, hround, hpass, returnDecision_eq, roundValue_eq]

/-- A WAIT on a round that is not HELD takes one queue place and reserves the wait notice (R32). -/
theorem acceptWait_reserves {r : Round} (s : State) (h : HostId) (c : CellId) (hphase : r.phase ≠ .held) :
    acceptWait s h c r =
      { s with
        cells := s.cells.set c
          { number := s.cells[c].number, round := some { r with waitNotices := r.waitNotices ||| 1#4 <<< h.val } }
        queues := s.queues.set h
          (withLine { s.queues[h] with reservations := s.queues[h].reservations + 1 } s.ports[h]) } := by
  rw [acceptWait, if_neg hphase, reserve_eq]
  rfl

/-- A host with a wait notice alone gets one WAIT_END. -/
theorem noticesOf_waitEnd (c : CellId) (number : RoundNumber) (r : Round) (h : HostId) :
    noticesOf c number { r with contributionNotices := 0, waitNotices := 1#4 <<< h.val } h =
      [roundNotice c number r .waitEnd] := by
  have hmember : member (1#4 <<< h.val) h = true := by
    revert h; decide
  simp only [noticesOf_eq, member_zero, hmember, if_true, Bool.false_eq_true, if_false, List.nil_append]
  rfl

/-- A WAIT on a HELD cell is answered at once with a WAIT_END (R32), which adds its kinds to the latch (R160). -/
theorem acceptWait_held {r : Round} (s : State) (h : HostId) (c : CellId) (hphase : r.phase = .held) :
    acceptWait s h c r =
      { s with
        queues := s.queues.set h
          (withLine
            { s.queues[h] with
              entries := s.queues[h].entries ++
                noticesOf c s.cells[c].number { r with contributionNotices := 0, waitNotices := 1#4 <<< h.val } h
              latch := s.queues[h].latch ||| kindsGained r.outcome r.publication }
            s.ports[h]) } := by
  rw [acceptWait, if_pos hphase, reserve_enter_eq, noticesOf_waitEnd, ← latch_kindsGained]
  rfl

/-- Settles O29: refused by the ordered checks, else the notice is reserved, or posted at once in HELD. -/
theorem waitReservesOrIsNoticedAtOnce : Obligations.WaitReservesOrIsNoticedAtOnce := by
  intro s h words c cell q accepted hover
  have hexec : exec (.wait h) s = .next (takeWait s h words).settle := ownerTakes_handed hover _
  refine ⟨fun code hcode => ?_, fun hpass r hround => ⟨fun hphase => ?_, fun hphase => ?_⟩⟩
  · rw [hexec, takeWait_refused hcode]
  · rw [hexec, takeWait_accepted hpass hround, acceptWait_reserves _ _ _ hphase]
    rfl
  · rw [hexec, takeWait_accepted hpass hround, acceptWait_held _ _ _ hphase]
    rfl

/-! ### RELEASE (R33, R44) -/

theorem releaseChecks_none {s : State} {words : List Word} (h : HostId)
    (hround : s.cells[commandCell words].round = none) : firstRefusal (releaseChecks s h words) = some .cellFree := by
  rw [releaseChecks, hround]
  rfl

/-- On a cell that holds a round the ordered checks of RELEASE give the model's refusal. -/
theorem releaseChecks_some {s : State} {words : List Word} {r : Round} (h : HostId)
    (hround : s.cells[commandCell words].round = some r) :
    firstRefusal (releaseChecks s h words) = releaseRefusal h r := by
  simp only [releaseChecks, hround, firstRefusal_cons, firstRefusal_nil, Option.isNone_some, Bool.false_eq_true,
    if_false, Option.any_some, not_phaseIn_held_iff hround, decide_eq_true_eq, releaseRefusal]

theorem takeRelease_refused {s : State} {h : HostId} {words : List Word} {code : StatusCode}
    (hcode : firstRefusal (releaseChecks s h words) = some code) :
    takeRelease s h words = decisionOnly s h words code (s.cells[commandCell words].number.setWidth 32) := by
  rw [← refuseCommand_eq, takeRelease]
  cases hround : s.cells[commandCell words].round with
  | none =>
    obtain rfl : .cellFree = code := Option.some.inj ((releaseChecks_none h hround).symm.trans hcode)
    rfl
  | some r =>
    rw [releaseChecks_some h hround] at hcode
    simp only [hcode]

theorem takeRelease_accepted {s : State} {h : HostId} {words : List Word}
    (hpass : firstRefusal (releaseChecks s h words) = none) :
    takeRelease s h words =
      { decisionOnly s h words .accepted (s.cells[commandCell words].number.setWidth 32) with
        cells := s.cells.set (commandCell words) { number := s.cells[commandCell words].number, round := none } } := by
  cases hround : s.cells[commandCell words].round with
  | none => exact absurd ((releaseChecks_none h hround).symm.trans hpass) (by simp)
  | some r =>
    rw [releaseChecks_some h hround] at hpass
    simp only [takeRelease, hround, hpass, roundValue_eq]
    rfl

/-- Settles O31: refused by the ordered checks, else the cell goes FREE under its number. -/
theorem releaseFreesAHeldCell : Obligations.ReleaseFreesAHeldCell := by
  intro s h words c cell hover
  have hexec : exec (.release h) s = .next (takeRelease s h words).settle := ownerTakes_handed hover _
  refine ⟨fun code hcode => ?_, fun hpass => ?_⟩
  · rw [hexec, takeRelease_refused hcode]
  · rw [hexec, takeRelease_accepted hpass]

/-! ### QUERY (R34) -/

/-- A count of entries as a status value, while it fits its field. -/
theorem heldValue_eq {n : Nat} (hn : n < 64) : heldValue n = BitVec.ofNat 32 n := by
  rw [heldValue, packFields_one]
  simp [Nat.mod_eq_of_lt hn]

/-- A REPORT adds no kind to the error latch (R160). -/
theorem or_entryLatch_report (latch : LatchSet) (snapshot : Snapshot) :
    latch ||| entryLatch (.report snapshot) = latch := by
  simp [entryLatch]

theorem takeQuery_refused {s : State} {h : HostId} (words : List Word)
    (hfull : 32 ≤ s.queues[h].entries.length + s.queues[h].reservations) :
    takeQuery s h words = decisionOnly s h words .noCredit (s.cells[commandCell words].number.setWidth 32) := by
  have hcredit : noCredit s.queues[h] = true := decide_eq_true hfull
  rw [takeQuery, if_pos hcredit, refuseCommand_eq]

theorem takeQuery_accepted {s : State} {h : HostId} (words : List Word)
    (hfree : s.queues[h].entries.length + s.queues[h].reservations < 32) :
    takeQuery s h words =
      { decisionOnly s h words .accepted (BitVec.ofNat 32 (s.queues[h].entries.length + 1)) with
        queues := s.queues.set h
          (withLine
            { s.queues[h] with
              entries := s.queues[h].entries ++
                [.report { cell := commandCell words, record := s.cells[commandCell words] }] }
            s.ports[h]) } := by
  have hcredit : ¬noCredit s.queues[h] = true := mt of_decide_eq_true (Nat.not_le.mpr hfree)
  have hheld : ∀ e, ((s.reserve h).enter h e).queues[h].entries.length = s.queues[h].entries.length + 1 := by
    intro e
    rw [reserve_enter_eq]
    simp [withLine]
  simp only [takeQuery, if_neg hcredit, returnDecision_eq, hheld]
  rw [heldValue_eq (by omega), reserve_enter_eq, or_entryLatch_report]
  rfl

/-- Settles O32: with a free place, the reservation added is converted at once and leaves only the REPORT. -/
theorem queryEntersAReport : Obligations.QueryEntersAReport := by
  intro s h words c q hover
  have hexec : exec (.query h) s = .next (takeQuery s h words).settle := ownerTakes_handed hover _
  refine ⟨fun hfull => ?_, fun hfree => ?_⟩
  · rw [hexec, takeQuery_refused words hfull]
  · rw [hexec, takeQuery_accepted words hfree]

end Sys2Proof.Machine
end

section
/-! Proofs for the events of a cell that complete a round and dispose of it: what taking a report and a clean end come to,
then the statements. -/

namespace Sys2Proof.Machine

open Sys2Proof.Safety

/-! ### The taking of a report (R36) -/

/-- A cell in COLLECTING takes the first report of the kind asked for. -/
theorem takeReport_collecting {s : State} {c : CellId} {kind : ReportKind → Bool} {m : WalkReport}
    {rest : List WalkReport} {r : Round} (hreport : firstReport s c kind m rest) (hround : s.cells[c].round = some r)
    (hphase : r.phase = .collecting) :
    takeReport s c kind = .next (({ s with walkReports := rest } : State).collectReport c r m.host m.kind).settle := by
  obtain ⟨hfound, hrest⟩ := firstReport_found hreport
  simp only [takeReport, hfound, hrest, hround, hphase, completed]

/-- The round that a DONE report leaves in its cell (R36): its values committed, its host arrived, no walk in flight. -/
def walkedRound (r : Round) (host : HostId) (accumulator : Option Int) (t : Tallies) : Round :=
  { r with
    accumulator := accumulator, tallies := t
    arrived := r.arrived ||| 1#4 <<< host.val, statuses := r.statuses.set host (some .walked)
    walkInFlight := none, inFlightHost := none }

/-- The last arrival ends the round cleanly (R37). -/
theorem commitWalk_last {r : Round} {host : HostId} (s : State) (c : CellId) (accumulator : Option Int) (t : Tallies)
    (hlast : r.arrived ||| 1#4 <<< host.val = r.participants) :
    s.commitWalk c r host accumulator t = s.cleanEnd c (walkedRound r host accumulator t) :=
  if_pos hlast

/-! ### The clean end (R37, R38) -/

theorem roundFlags_complete (t : Tallies) :
    roundFlags (some .complete) t = { earlyFlags t with empty := decide (t.combined = 0) } := by
  simp only [roundFlags, earlyFlags, decide_true, Bool.true_and, beq_eq_decide]

/-- A clean end whose output stage gives a result hands on a COMPLETE round. -/
theorem cleanEnd_result {r : Round} {value : Option Int} {t : Tallies} (s : State) (c : CellId)
    (hstage : outputStage r.settings r.accumulator r.tallies = .result value t) :
    handedOn s (s.cleanEnd c r) c
      { r with
        tallies := t, outcome := some .complete, deadline := 0
        result := some { value := value, flags := { earlyFlags t with empty := decide (t.combined = 0) } } } := by
  simp only [State.cleanEnd, hstage, ← roundFlags_complete]
  exact handOn_spec s c _

/-- A clean end whose output stage raises an exception hands on a FAULTED round, whose fault is the kind alone. -/
theorem cleanEnd_raised {r : Round} {kind : ExceptionKind} (s : State) (c : CellId)
    (hstage : outputStage r.settings r.accumulator r.tallies = .raised kind) :
    handedOn s (s.cleanEnd c r) c
      { r with
        outcome := some .faulted, fault := some { kind := kind, element := none }, deadline := 0
        result := some { value := none, flags := earlyFlags r.tallies } } := by
  have hflags : roundFlags (some .faulted) r.tallies = earlyFlags r.tallies := roundFlags_early (by simp) r.tallies
  simp only [State.cleanEnd, hstage, ← hflags]
  exact handOn_spec s c _

/-- Settles O35: the report is committed, and the clean end hands on what the output stage gives. -/
theorem lastDoneCompletesTheRound : Obligations.LastDoneCompletesTheRound := by
  intro s c m rest r acc t hreport hkind hround hphase hlast taken ended
  have hexec : exec (.walkEndDone c) s = .next (taken.cleanEnd c (walkedRound r m.host acc t)).settle := by
    rw [← commitWalk_last taken c acc t hlast]
    refine (takeReport_collecting hreport hround hphase).trans ?_
    rw [hkind]
    rfl
  exact ⟨fun value t' hstage => ⟨_, hexec, cleanEnd_result taken c hstage⟩,
    fun kind hstage => ⟨_, hexec, cleanEnd_raised taken c hstage⟩⟩

/-! ### The publication-done report (R39 to R44) -/

/-- The first publication-done report for a cell is the one found, and the others are left. -/
theorem firstPublication_found {c : CellId} {m : PublicationReport} {front : List PublicationReport}
    (back : List PublicationReport) (hcell : m.cell = c) (hfront : ∀ x ∈ front, x.cell ≠ c) :
    (front ++ m :: back).find? (publicationFor c) = some m
      ∧ (front ++ m :: back).eraseP (publicationFor c) = front ++ back := by
  have hm : publicationFor c m = true := decide_eq_true hcell
  have hothers : ∀ x ∈ front, ¬publicationFor c x = true := fun x hx => mt of_decide_eq_true (hfront x hx)
  constructor
  · rw [List.find?_append, List.find?_eq_none.mpr hothers, Option.none_or, List.find?_cons_of_pos hm]
  · rw [List.eraseP_append_right _ hothers, List.eraseP_cons_of_pos hm]

/-- Settles O38: the first report for the cell is taken, and its round finished with the status recorded. -/
theorem publicationDonePostsNoticesAndDisposes : Obligations.PublicationDonePostsNoticesAndDisposes := by
  intro s c status front back r hreports hfront hround hphase hline ended
  obtain ⟨hfound, hrest⟩ := firstPublication_found (m := { cell := c, status := status }) back rfl hfront
  have hexec : exec (.publicationDone c) s =
      .next (({ s with publicationReports := front ++ back } : State).finishRound c ended).settle := by
    show execPublicationDone c s = _
    simp only [execPublicationDone, hreports, hfound, hrest, hround, hphase, if_true, completed]
    rfl
  refine ⟨_, hexec, ?_, ?_⟩
  · rw [finishRound_eq]
    exact postNotices_posted _ c _ ended hline
  · rw [finishRound_eq]

end Sys2Proof.Machine
end

section
/-! Proofs for the ways a round ends before every walk is done: ABORT, a FAULT report, the arrivals that it leaves to
absorb, a CUT and the drain. First what a report and a command come to in each phase, then the statements. -/

namespace Sys2Proof.Machine

open Sys2Proof.Safety

/-! ### What an early end leaves alone -/

theorem closeEarly_ports (s : State) (c : CellId) (r : Round) : (s.closeEarly c r).ports = s.ports :=
  (congrArg State.ports (handOn_frame s c _)).trans rfl

theorem closeEarly_hostCounts (s : State) (c : CellId) (r : Round) : (s.closeEarly c r).hostCounts = s.hostCounts :=
  (congrArg State.hostCounts (handOn_frame s c _)).trans rfl

theorem earlyEnd_ports (s : State) (c : CellId) (r : Round) (cause : RoundOutcome) :
    (s.earlyEnd c r cause).ports = s.ports := by
  obtain ⟨cell, hframe⟩ := earlyEnd_frame s c r cause
  exact (congrArg State.ports hframe).trans rfl

/-- A decision returned after an effect that leaves the ports alone. -/
theorem decisionOnly_of_ports {s u : State} (hports : u.ports = s.ports) (h : HostId) (words : List Word)
    (code : StatusCode) (value : Word) :
    decisionOnly u h words code value =
      { u with ports := s.ports.set h (decided s.ports[h] words code value) } := by
  rw [decisionOnly, hports]

@[simp] theorem settlePending_outcome (r : Round) (status : ContributionStatus) :
    (r.settlePending status).outcome = r.outcome :=
  (congrArg Round.outcome (settlePending_eq r status)).trans rfl

@[simp] theorem settlePending_participants (r : Round) (status : ContributionStatus) :
    (r.settlePending status).participants = r.participants :=
  (congrArg Round.participants (settlePending_eq r status)).trans rfl

/-- The check "the cell is in DRAINING, PUBLISHING or HELD", on a cell that holds a round: neither of the two phases in
which a round can still be contributed to or aborted. -/
theorem phaseIn_closed_iff {cell : Cell} {r : Round} (hround : cell.round = some r) :
    phaseIn cell [.draining, .publishing, .held] = true ↔ r.phase ≠ .collecting ∧ r.phase ≠ .absorbing := by
  cases hphase : r.phase <;> simp [phaseIn, hround, hphase]

/-! ### ABORT (R55, R56) -/

theorem abortChecks_none {s : State} {words : List Word} (h : HostId)
    (hround : s.cells[commandCell words].round = none) : firstRefusal (abortChecks s h words) = some .cellFree := by
  rw [abortChecks, hround]
  rfl

/-- On a cell that holds a round the ordered checks of ABORT give the model's refusal. -/
theorem abortChecks_some {s : State} {words : List Word} {r : Round} (h : HostId)
    (hround : s.cells[commandCell words].round = some r) :
    firstRefusal (abortChecks s h words) = abortRefusal h (commandRound words) s.cells[commandCell words].number r := by
  simp only [abortChecks, hround, firstRefusal_cons, firstRefusal_nil, Option.isNone_some, Bool.false_eq_true, if_false,
    Option.any_some, phaseIn_closed_iff hround, decide_eq_true_eq, abortRefusal]

theorem takeAbort_refused {s : State} {h : HostId} {words : List Word} {code : StatusCode}
    (hcode : firstRefusal (abortChecks s h words) = some code) :
    takeAbort s h words = decisionOnly s h words code (s.cells[commandCell words].number.setWidth 32) := by
  rw [← refuseCommand_eq, takeAbort]
  cases hround : s.cells[commandCell words].round with
  | none =>
    obtain rfl : .cellFree = code := Option.some.inj ((abortChecks_none h hround).symm.trans hcode)
    rfl
  | some r =>
    rw [abortChecks_some h hround] at hcode
    simp only [hcode]

/-- A round whose final flag has gained the FINAL flag of an ABORT (R56). -/
def withFinal (r : Round) (final : Bool) : Round :=
  { r with final := r.final || final }

/-- An accepted ABORT sets final as FINAL asks, ends the round early and returns its decision (R56). -/
theorem takeAbort_accepted {s : State} {h : HostId} {words : List Word} {r : Round}
    (hpass : firstRefusal (abortChecks s h words) = none) (hround : s.cells[commandCell words].round = some r) :
    takeAbort s h words =
      { s.earlyEnd (commandCell words) (withFinal r ((words.getD 0 0).getLsbD 24)) .aborted with
        ports := s.ports.set h
          (decided s.ports[h] words .accepted (s.cells[commandCell words].number.setWidth 32)) } := by
  rw [abortChecks_some h hround] at hpass
  simp only [takeAbort, hround, hpass, returnDecision_eq, roundValue_eq, abortFinal, bitSet_eq]
  exact decisionOnly_of_ports (earlyEnd_ports _ _ _ _) _ _ _ _

/-- Settles O30: refused by the ordered checks, else the early end of the round's phase, with FINAL set first. -/
theorem abortEndsTheRoundEarly : Obligations.AbortEndsTheRoundEarly := by
  intro s h words c cell final hover
  have hexec : exec (.abort h) s = .next (takeAbort s h words).settle := ownerTakes_handed hover _
  refine ⟨fun code hcode => by rw [hexec, takeAbort_refused hcode], ?_⟩
  intro hpass r hround accepted removed
  have hremoved : removed (s.removeCell c) := ⟨removeContributions_left s _, rfl⟩
  have hsettled :=
    settlePending_spec ({ withFinal r final with outcome := some .aborted, deadline := 0 } : Round) .dropped
  rw [hexec, takeAbort_accepted hpass hround]
  refine ⟨fun hphase w hwalk => ?_, fun hphase hwalk => ?_, fun hphase houtcome => ?_⟩
  · refine ⟨_, _, hremoved, hsettled, ?_⟩
    rw [earlyEnd_drains (r := withFinal r final) c .aborted hphase hwalk]
  · exact ⟨_, _, _, hremoved, hsettled, earlyEnd_closes (r := withFinal r final) c .aborted hphase (by decide) hwalk, rfl⟩
  · exact ⟨_, earlyEnd_absorbing (r := withFinal r final) c .aborted hphase houtcome, rfl⟩

/-! ### The checks of CONTRIBUTE (R28) -/

theorem decodeFormat_isNone (b : BitVec 2) : (decodeFormat b.toNat).isNone = (b == 3) := by
  revert b; decide

/-- The BAD_FIELD conditions of R170 are the refused format and those on the decoded fields. -/
theorem contributeFieldFault_eq (words : List Word) :
    contributeFieldFault words =
      ((decodeContribute words).format.isNone || contributeBadField (decodeContribute words)) := by
  have hdims : decide (3 < ((words.getD 2 0).extractLsb' 28 2).toNat) = false :=
    decide_eq_false (by have := ((words.getD 2 0).extractLsb' 28 2).isLt; omega)
  have hentry : ∀ b : BitVec 4, decide (Fin.ofNat 16 b.toNat ≠ 0) = (b != 0) := by decide
  simp only [contributeFieldFault, contributeBadField, decodeContribute, bitField_eq, signedField_eq,
    decodeFormat_isNone, hdims, hentry, beq_eq_decide, Bool.or_assoc, Bool.false_or, Bool.and_comm]

/-- The BAD_SHAPE conditions of R71, on the decoded fields. -/
theorem contributeShapeFault_eq (words : List Word) :
    contributeShapeFault words = contributeBadShape (decodeContribute words) := by
  simp only [contributeShapeFault, contributeBadShape, decodeContribute, bitField_eq, beq_eq_decide, bne, decide_not]

/-- The alignment test of R73, on the descriptor of a CONTRIBUTE whose format is known. -/
theorem contributeMisaligned_eq (s : State) {words : List Word} {format : ElementFormat}
    (hformat : (decodeContribute words).format = some format) :
    contributeMisaligned s words = misaligned s.strides (contributeDescriptor (decodeContribute words) format) := by
  rw [Bool.eq_iff_iff]
  simp only [contributeMisaligned, hformat, Option.any_some, misaligned, Bool.or_eq_true, Bool.and_eq_true,
    decide_eq_true_eq, Nat.dvd_iff_mod_eq_zero]
  by_cases htwo : (decodeContribute words).dims = 2
  · simp [contributeDescriptor, namings, htwo]
  by_cases hthree : (decodeContribute words).dims = 3
  · simp [contributeDescriptor, namings, hthree, or_assoc]
  · simp [contributeDescriptor, namings, htwo, hthree]

/-- On a cell that holds a round the ordered checks of CONTRIBUTE, past those on its words, give the model's refusal. -/
theorem contributeChecks_some {s : State} {words : List Word} {format : ElementFormat} {r : Round} (h : HostId)
    (hformat : (decodeContribute words).format = some format)
    (hround : s.cells[(decodeContribute words).cell].round = some r) :
    firstRefusal (contributeChecks s h words) =
      if contributeBadField (decodeContribute words) then some .badField
      else if contributeBadShape (decodeContribute words) then some .badShape
      else
        roundRefusal s h (decodeContribute words) (contributeDescriptor (decodeContribute words) format)
          s.cells[(decodeContribute words).cell].number r := by
  have hcollecting : phaseIn s.cells[(decodeContribute words).cell] [.collecting] = decide (r.phase = .collecting) := by
    rw [phaseIn, hround]
    simp [eq_comm]
  simp only [contributeChecks, contributeFieldFault_eq, contributeShapeFault_eq, contributeMisaligned_eq s hformat,
    hformat, hround, hcollecting, firstRefusal_cons, firstRefusal_nil, Option.isNone_some, Bool.false_or,
    Bool.false_eq_true, if_false, Option.any_some, phaseIn_closed_iff hround, decide_eq_true_eq, Bool.and_eq_true,
    roundRefusal, noCredit]

/-- A CONTRIBUTE that passes its checks has a format. -/
theorem contributeChecks_format {s : State} {h : HostId} {words : List Word}
    (hpass : firstRefusal (contributeChecks s h words) = none) :
    ∃ format, (decodeContribute words).format = some format := by
  cases hformat : (decodeContribute words).format with
  | some format => exact ⟨format, rfl⟩
  | none =>
    simp [contributeChecks, contributeFieldFault_eq, hformat] at hpass

/-- An accepted CONTRIBUTE takes its effect and returns the number of entries that its host then holds (R29, R171). -/
theorem takeContribute_accepted {s : State} {h : HostId} {words : List Word} {format : ElementFormat} {r : Round}
    (hpass : firstRefusal (contributeChecks s h words) = none)
    (hformat : (decodeContribute words).format = some format)
    (hround : s.cells[(decodeContribute words).cell].round = some r) :
    let t := acceptContribute s h (decodeContribute words) (contributeDescriptor (decodeContribute words) format) r
    takeContribute s h words = decisionOnly t h words .accepted (BitVec.ofNat 32 (t.hostCounts[h] % 32)) := by
  intro t
  have hvalue : ∀ n, countValue n = BitVec.ofNat 32 (n % 32) := fun n => by rw [countValue, packFields_one]; simp
  rw [contributeChecks_some h hformat hround] at hpass
  split at hpass
  · cases hpass
  split at hpass
  · cases hpass
  rename_i hfield hshape
  simp only [takeContribute, hformat, hfield, hshape, hround, hpass, returnDecision_eq, hvalue, if_false,
    Bool.false_eq_true]
  rfl

/-! ### Absorption (R53) -/

/-- The round in which a contribution of `h` has been accepted and absorbed. -/
def absorbedRound (r : Round) (h : HostId) : Round :=
  { r with
    posted := r.posted ||| 1#4 <<< h.val
    arrived := r.arrived ||| 1#4 <<< h.val
    statuses := r.statuses.set h (some .absorbed)
    contributionNotices := r.contributionNotices ||| 1#4 <<< h.val }

theorem post_arrive_absorbed (r : Round) (h : HostId) : (r.post h).arrive h .absorbed = absorbedRound r h := by
  simp [Round.post, Round.arrive, absorbedRound, join, single]

/-- A CONTRIBUTE accepted into ABSORBING reserves its notice and is absorbed (R29, R53). -/
theorem acceptContribute_absorbing {s : State} {h : HostId} {r : Round} (f : ContributeFields) (d : Descriptor)
    (hphase : r.phase = .absorbing) :
    acceptContribute s h f d r = (s.reserve h).absorb f.cell (r.post h) h :=
  if_neg (by simp [hphase])

/-- An absorbed arrival that is not the last is recorded in the cell. -/
theorem absorb_more {r : Round} {h : HostId} (s : State) (c : CellId)
    (hmore : (absorbedRound r h).arrived ≠ r.participants) :
    s.absorb c (r.post h) h = s.putRound c (absorbedRound r h) := by
  rw [State.absorb, post_arrive_absorbed]
  exact if_neg hmore

/-- The last absorbed arrival closes the round. -/
theorem absorb_last {r : Round} {h : HostId} (s : State) (c : CellId)
    (hlast : (absorbedRound r h).arrived = r.participants) :
    s.absorb c (r.post h) h = s.closeEarly c (absorbedRound r h) := by
  rw [State.absorb, post_arrive_absorbed]
  exact if_pos hlast

/-- Settles O27: absorption records the arrival, and the last one closes the round. -/
theorem contributeIsAbsorbedAfterAFault : Obligations.ContributeIsAbsorbedAfterAFault := by
  intro s h words r f cell absorbed reserved ports hover hround hphase hpass
  have hexec : exec (.contribute h) s = .next (takeContribute s h words).settle := ownerTakes_handed hover _
  have hreserve : s.reserve h = reserved := reserve_eq s h
  obtain ⟨format, hformat⟩ := contributeChecks_format hpass
  rw [hexec, takeContribute_accepted hpass hformat hround, acceptContribute_absorbing _ _ hphase, hreserve]
  refine ⟨fun hmore => ?_, fun hlast houtcome => ?_⟩
  · rw [absorb_more reserved f.cell hmore]
    rfl
  · rw [absorb_last reserved f.cell hlast, closeEarly_hostCounts]
    refine ⟨reserved.closeEarly f.cell absorbed, ?_, closeEarly_spec _ _ _ ?_⟩
    · rw [decisionOnly_of_ports (closeEarly_ports reserved f.cell (absorbedRound r h))]
      rfl
    · exact fun hcomplete => by cases houtcome.symm.trans hcomplete

/-! ### A FAULT report (R50, R51) -/

/-- The round that a FAULT report leaves before its pending hosts are settled (R50, R51). -/
def faultedRound (r : Round) (host : HostId) (kind : ExceptionKind) (index : Nat) (address : Addr) : Round :=
  { r with
    outcome := some .faulted
    fault := some { kind := kind, element := some { host := host, index := index, address := address } }
    arrived := r.arrived ||| 1#4 <<< host.val
    statuses := r.statuses.set host (some .faulting)
    walkInFlight := none, inFlightHost := none }

/-- The fault of a round closes it when its pending hosts, once settled, leave no participant to arrive, and else it
enters ABSORBING (R50). -/
theorem faultRound_eq {r settled : Round} {host : HostId} {kind : ExceptionKind} {index : Nat} {address : Addr}
    (s : State) (c : CellId) (hsettled : (faultedRound r host kind index address).settlePending .absorbed = settled) :
    s.faultRound c r host kind index address =
      if settled.arrived = r.participants then (s.removeCell c).closeEarly c settled
      else (s.removeCell c).putRound c { settled with phase := .absorbing } := by
  have hparticipants : settled.participants = r.participants := hsettled ▸ settlePending_participants _ _
  rw [← hparticipants, ← hsettled]
  rfl

/-- Settles O36: the report faults the round, and the pending hosts settled tell whether it absorbs or closes. -/
theorem faultReportFaultsTheRound : Obligations.FaultReportFaultsTheRound := by
  intro s c m rest r kind index address hreport hkind hround hphase faulting
  let taken : State := { s with walkReports := rest }
  let settled : Round := faulting.settlePending .absorbed
  have hexec : exec (.walkEndFault c) s = .next (taken.faultRound c r m.host kind index address).settle := by
    refine (takeReport_collecting hreport hround hphase).trans ?_
    rw [hkind]
    rfl
  have hsettled : (faultedRound r m.host kind index address).settlePending .absorbed = settled := rfl
  refine ⟨taken.removeCell c, settled, settlePending_spec faulting .absorbed, removeContributions_left taken _, rfl,
    fun hmore => ?_, fun hlast => ⟨_, hexec, ?_⟩⟩
  · rw [hexec, faultRound_eq taken c hsettled, if_neg hmore]
    rfl
  · rw [faultRound_eq taken c hsettled, if_pos hlast]
    exact closeEarly_spec _ c settled (by simp [settled, faulting])

/-! ### A CUT, and the end of a drain (R59, R65) -/

/-- A cell in DRAINING takes the first report of the kind asked for. -/
theorem takeReport_draining {s : State} {c : CellId} {kind : ReportKind → Bool} {m : WalkReport}
    {rest : List WalkReport} {r : Round} (hreport : firstReport s c kind m rest) (hround : s.cells[c].round = some r)
    (hphase : r.phase = .draining) :
    takeReport s c kind = .next (({ s with walkReports := rest } : State).endDrain c r m.host m.kind).settle := by
  obtain ⟨hfound, hrest⟩ := firstReport_found hreport
  simp only [takeReport, hfound, hrest, hround, hphase, completed]

theorem firstReport_kind {s : State} {c : CellId} {kind : ReportKind → Bool} {m : WalkReport} {rest : List WalkReport}
    (hreport : firstReport s c kind m rest) : kind m.kind = true := by
  obtain ⟨front, back, hreports, hrest, hcell, hkind, hfront⟩ := hreport
  exact hkind

theorem isCut_iff {kind : ReportKind} : isCut kind = true ↔ kind = .cut := by
  cases kind <;> simp [isCut]

theorem reportStatus_of_isDone {kind : ReportKind} (h : isDone kind = true) : reportStatus kind = .walked := by
  cases kind with
  | done accumulator t => rfl
  | fault kind index address => cases h
  | cut => cases h

theorem reportStatus_of_isFault {kind : ReportKind} (h : isFault kind = true) : reportStatus kind = .faulting := by
  cases kind with
  | done accumulator t => cases h
  | fault kind index address => rfl
  | cut => cases h

/-- The end of a drain closes the round, the host arrived with the status of the report's kind (R59). -/
theorem endDrain_closes {r : Round} {kind : ReportKind} {status : ContributionStatus} (s : State) (c : CellId)
    (host : HostId) (hstatus : reportStatus kind = status) (houtcome : r.outcome ≠ some .complete) :
    handedOn s (s.endDrain c r host kind) c (closedEarly (r.arrive host status).clearWalk) := by
  rw [State.endDrain, hstatus]
  exact closeEarly_spec s c _ houtcome

/-- Settles O37: in COLLECTING a CUT clears the walk in flight; in DRAINING each kind of report ends the drain. -/
theorem cutIsSetAsideAndAnyReportEndsTheDrain : Obligations.CutIsSetAsideAndAnyReportEndsTheDrain := by
  intro s c m rest r hround number taken drained
  refine ⟨fun hreport hphase => ?_, fun hphase houtcome => ⟨fun hreport => ?_, fun hreport => ?_, fun hreport => ?_⟩⟩
  · refine (takeReport_collecting hreport hround hphase).trans ?_
    rw [isCut_iff.mp (firstReport_kind hreport)]
    rfl
  · exact ⟨_, takeReport_draining hreport hround hphase,
      endDrain_closes taken c m.host (reportStatus_of_isDone (firstReport_kind hreport)) houtcome⟩
  · exact ⟨_, takeReport_draining hreport hround hphase,
      endDrain_closes taken c m.host (reportStatus_of_isFault (firstReport_kind hreport)) houtcome⟩
  · have hstatus : reportStatus m.kind = .cut := by rw [isCut_iff.mp (firstReport_kind hreport)]; rfl
    exact ⟨_, takeReport_draining hreport hround hphase, endDrain_closes taken c m.host hstatus houtcome⟩

end Sys2Proof.Machine
end

section
/-! Proofs for the two commands of the Stride Table: the fields of their status values, what SET_STRIDE comes to in each
of its three cases, then the statement. -/

namespace Sys2Proof.Machine

open Sys2Proof.Safety

/-! ### A word of a high part over a low field

Packing adds the fields, and so does placing one bit vector over another. The library's rules for concatenations then
read the fields back. -/

/-- What a field adds to the number of its word. -/
def placedField (f : Nat × Nat × Nat) : Nat :=
  f.2.2 % 2 ^ (f.1 - f.2.1 + 1) * 2 ^ f.2.1

theorem packFields_eq_sum (fields : List (Nat × Nat × Nat)) :
    packFields fields = BitVec.ofNat 32 (fields.map placedField).sum := by
  rw [List.sum_eq_foldl_nat, List.foldl_map]
  rfl

theorem packFields_cons (f : Nat × Nat × Nat) (rest : List (Nat × Nat × Nat)) :
    packFields (f :: rest) = packFields [f] + packFields rest := by
  simp [packFields_eq_sum, BitVec.ofNat_add]

/-- A bit vector over a number in `n` bits is the sum of the two, each at its place. -/
theorem append_ofNat {m : Nat} (n : Nat) (high : BitVec m) (low : Nat) :
    high ++ BitVec.ofNat n low =
      BitVec.ofNat (m + n) (low % 2 ^ n) + BitVec.ofNat (m + n) (high.toNat * 2 ^ n) := by
  have hlow : low % 2 ^ n < 2 ^ n := Nat.mod_lt _ (by positivity)
  have hnat : (high ++ BitVec.ofNat n low).toNat = low % 2 ^ n + high.toNat * 2 ^ n := by
    rw [BitVec.toNat_append, BitVec.toNat_ofNat, ← Nat.shiftLeft_add_eq_or_of_lt hlow, Nat.shiftLeft_eq, add_comm]
  rw [← BitVec.ofNat_add, ← hnat, BitVec.ofNat_toNat, BitVec.setWidth_eq]

/-! ### The status values (R171) -/

/-- The last-writer bits of a status value: 1 and the host's number, or 0 when there is no last writer. -/
def writerBits : Option HostId → BitVec 3
  | none => 0#3
  | some g => 4#3 + BitVec.ofNat 3 g.val

theorem packFields_writerFields (writer : Option HostId) :
    packFields (writerFields writer) = BitVec.ofNat 32 ((0#5 ++ writerBits writer).toNat * 2 ^ 24) := by
  revert writer
  decide

/-- A number under the last writer, with five bits of 0 above. -/
theorem packFields_under_writer (v : Nat) (writer : Option HostId) :
    packFields ((23, 0, v) :: writerFields writer) = 0#5 ++ writerBits writer ++ BitVec.ofNat 24 v := by
  rw [packFields_cons, packFields_one, packFields_writerFields, append_ofNat, pow_zero, mul_one]

theorem ofNat_signedPattern (width : Nat) (x : Int) :
    BitVec.ofNat width (signedPattern width x) = BitVec.ofInt width x := by
  rw [signedPattern, BitVec.ofNat_toNat, BitVec.setWidth_eq]

theorem strideValueStatus_eq (e : StrideEntry) :
    strideValueStatus e = 0#5 ++ writerBits e.writer ++ BitVec.ofInt 24 e.value := by
  rw [strideValueStatus, packFields_under_writer, ofNat_signedPattern]

theorem strideBusyStatus_eq (e : StrideEntry) :
    strideBusyStatus e = 0#5 ++ writerBits e.writer ++ BitVec.ofNat 24 e.count :=
  packFields_under_writer e.count e.writer

/-- An entry's value under its reference count, with one bit of 0 above. -/
theorem strideReadStatus_eq (e : StrideEntry) :
    strideReadStatus e = 0#1 ++ BitVec.ofNat 7 e.count ++ BitVec.ofInt 24 e.value := by
  have hhigh : (0#1 ++ BitVec.ofNat 7 e.count).toNat = e.count % 2 ^ 7 := by
    rw [BitVec.toNat_append]
    simp
  rw [strideReadStatus, packFields_cons, packFields_one, packFields_one, ← ofNat_signedPattern, append_ofNat, hhigh,
    pow_zero, mul_one, add_comm]

theorem strideValueStatus_low (e : StrideEntry) :
    (strideValueStatus e).extractLsb' 0 24 = BitVec.ofInt 24 e.value := by
  rw [strideValueStatus_eq]
  exact BitVec.extractLsb'_append_eq_right

theorem strideBusyStatus_low (e : StrideEntry) :
    (strideBusyStatus e).extractLsb' 0 24 = BitVec.ofNat 24 e.count := by
  rw [strideBusyStatus_eq]
  exact BitVec.extractLsb'_append_eq_right

/-- Under a last writer, bits 26:24 are its bits and the five above are 0. -/
theorem extract_writer (writer : BitVec 3) (low : BitVec 24) :
    let word : Word := 0#5 ++ writer ++ low
    word.extractLsb' 24 3 = writer ∧ word.extractLsb' 27 5 = 0#5 := by
  intro word
  constructor <;> rw [BitVec.extractLsb'_append_eq_of_le (by decide)]
  · exact BitVec.extractLsb'_append_eq_right
  · exact BitVec.extractLsb'_append_eq_left

theorem strideReadStatus_fields (e : StrideEntry) :
    (strideReadStatus e).extractLsb' 0 24 = BitVec.ofInt 24 e.value
      ∧ (strideReadStatus e).extractLsb' 24 7 = BitVec.ofNat 7 e.count ∧ (strideReadStatus e).getLsbD 31 = false := by
  rw [strideReadStatus_eq]
  refine ⟨BitVec.extractLsb'_append_eq_right, ?_, ?_⟩
  · rw [BitVec.extractLsb'_append_eq_of_le (by decide)]
    exact BitVec.extractLsb'_append_eq_right
  · rw [BitVec.getLsbD_append, BitVec.getLsbD_append]
    rfl

/-! ### SET_STRIDE and READ_STRIDE (R84, R86) -/

section
variable {s : State} (h : HostId) {words : List Word}

theorem takeSetStride_outOfRange (hrange : ¬(-8388608 ≤ strideOperand words ∧ strideOperand words ≤ 8388607)) :
    takeSetStride s h words = decisionOnly s h words .badField (strideValueStatus s.strides[commandEntry words]) :=
  if_pos (by omega)

theorem takeSetStride_busy (hrange : -8388608 ≤ strideOperand words ∧ strideOperand words ≤ 8388607)
    (hcount : 0 < s.strides[commandEntry words].count) :
    takeSetStride s h words = decisionOnly s h words .strideBusy (strideBusyStatus s.strides[commandEntry words]) := by
  rw [takeSetStride, if_neg (by omega), if_pos hcount, returnDecision_eq]

theorem takeSetStride_accepted (hrange : -8388608 ≤ strideOperand words ∧ strideOperand words ≤ 8388607)
    (hcount : s.strides[commandEntry words].count = 0) :
    takeSetStride s h words =
      { decisionOnly s h words .accepted (strideValueStatus s.strides[commandEntry words]) with
        strides := s.strides.set (commandEntry words)
          { s.strides[commandEntry words] with value := strideOperand words, writer := some h } } := by
  rw [takeSetStride, if_neg (by omega), if_neg (by omega)]
  rfl

end

/-- Settles O33: SET_STRIDE by its three cases (in range and free, in range and referenced, out of range), each with the
fields of its status value, and READ_STRIDE by the fields of its value. -/
theorem strideCommandsWriteAndReadTheEntry : Obligations.StrideCommandsWriteAndReadTheEntry := by
  intro s h words e entry written inRange24 writer
  have hwriter : ∀ low : BitVec 24, writer (0#5 ++ writerBits entry.writer ++ low) := by
    intro low
    obtain ⟨hbits, hzero⟩ := extract_writer (writerBits entry.writer) low
    refine ⟨hbits.trans ?_, hzero⟩
    cases entry.writer <;> rfl
  have hvalue : writer (strideValueStatus entry) := strideValueStatus_eq entry ▸ hwriter _
  have hbusyValue : writer (strideBusyStatus entry) := strideBusyStatus_eq entry ▸ hwriter _
  refine ⟨fun hover => ?_, fun hover => ?_⟩
  · have hexec : exec (.setStride h) s = .next (takeSetStride s h words).settle := ownerTakes_handed hover _
    by_cases hrange : inRange24
    · by_cases hcount : entry.count = 0
      · refine ⟨_, hvalue, fun hout => absurd hrange hout, fun _ hreferenced => by omega, fun _ _ => ⟨?_, ?_⟩⟩
        · exact strideValueStatus_low entry
        · rw [hexec, takeSetStride_accepted h hrange hcount]
          rfl
      · refine ⟨_, hbusyValue, fun hout => absurd hrange hout, fun _ _ => ⟨?_, ?_⟩, fun _ hfree => absurd hfree hcount⟩
        · exact strideBusyStatus_low entry
        · rw [hexec, takeSetStride_busy h hrange (Nat.pos_of_ne_zero hcount)]
    · refine ⟨_, hvalue, fun _ => ⟨?_, ?_⟩, fun hin => absurd hin hrange, fun hin => absurd hin hrange⟩
      · exact strideValueStatus_low entry
      · rw [hexec, takeSetStride_outOfRange h hrange]
  · have hexec : exec (.readStride h) s =
        .next (decisionOnly s h words .accepted (strideReadStatus entry)).settle := ownerTakes_handed hover _
    obtain ⟨hlow, hcount, htop⟩ := strideReadStatus_fields entry
    exact ⟨_, hlow, hcount, htop, hexec⟩

end Sys2Proof.Machine
end

section
/-! What a step can do, said once: every event is a chain of changes, each a small update of the state with the conditions
under which the event makes it. A law that every change keeps is kept by every step; the laws are then shown change by
change. -/

namespace Sys2Proof.Machine

open Sys2Proof.Safety

/-! ### The changes -/

/-- What an event can do to the record of one port. A port reset, a PORT CONTROL word and the taking of a loss notice are
changes of their own. -/
inductive PortChange (p : HostPort) : HostPort → Prop
  | written (word : Word) (free : busHeld p = false) : PortChange p (p.writeCommand word)
  | decided {words : List Word} (code : StatusCode) (value : Word) (handed : p.framing = .delivering words .handed) :
      PortChange p (Safety.decided p words code value)
  | decisionTaken {words : List Word} {code : StatusCode} {value : Word}
      (decided : p.framing = .delivering words (.decided code value)) :
      PortChange p ({ p with framing := .empty, deferredResets := 0 }.record code value)
  | resetDeferred (awaits : awaitsDecision p = true) :
      PortChange p { p with deferredResets := p.deferredResets + 1 }
  | lineSet (held : Bool) : PortChange p { p with lineHeld := held }
  | acknowledged (returned : p.acksReturned ≠ 0) : PortChange p p.acknowledge
  | removalTaken (sent : p.removals ≠ 0) : PortChange p { p with removals := p.removals - 1 }.returnAck
  | cutTaken (w : UnitId) (sent : p.cuts[w] ≠ 0) :
      PortChange p { p with cuts := p.cuts.set w (p.cuts[w] - 1) }.returnAck

/-- What an event can do to the record of a round that stays in its cell, with nothing else changed in the same move. -/
inductive RoundChange (s : State) (c : CellId) (r : Round) : Round → Prop
  | finalSet (final : Bool) : RoundChange s c r { r with final := final }
  | counted (runs : deadlineRuns r = true) (left : 2 ≤ r.deadline) :
      RoundChange s c r { r with deadline := r.deadline - 1 }
  | drains {w : UnitId} (cause : RoundOutcome) (early : cause ≠ .complete ∧ cause ≠ .faulted)
      (collecting : r.phase = .collecting) (walk : r.walkInFlight = some w) (noEntry : cellEntries s c = []) :
      RoundChange s c r
        { ({ r with outcome := some cause, deadline := 0 } : Round).settlePending .dropped with phase := .draining }

/-- What an event that takes one place of the host's completion queue for a membership does to the round. -/
inductive JoinChange (h : HostId) (r : Round) : Round → Prop
  | absorbed (absorbing : r.phase = .absorbing) (participant : member r.participants h = true)
      (fresh : member r.posted h = false) : JoinChange h r ((r.post h).arrive h .absorbed)
  | waits (open' : r.phase ≠ .held) (fresh : member r.waitNotices h = false) :
      JoinChange h r { r with waitNotices := join r.waitNotices h }

/-- What a walk-end report does to a round in COLLECTING. -/
inductive ReportChange (s : State) (c : CellId) (m : WalkReport) (r : Round) : Round → Prop
  | committed {accumulator : Option Int} {t : Tallies} (done : m.kind = .done accumulator t) :
      ReportChange s c m r
        (({ r with accumulator := accumulator, tallies := t } : Round).arrive m.host .walked).clearWalk
  | faulted (kind : ExceptionKind) (index : Nat) (address : Addr) (noEntry : cellEntries s c = []) :
      ReportChange s c m r
        { (((({ r with
                outcome := some .faulted
                fault := some
                  { kind := kind, element := some { host := m.host, index := index, address := address } } } :
                Round).arrive m.host .faulting).clearWalk).settlePending .absorbed) with
          phase := .absorbing }
  | cutAside : ReportChange s c m r r.clearWalk

/-- A round that closes with an outcome other than COMPLETE (R49). -/
def shutRound (r : Round) : Round :=
  { r with deadline := 0, result := some { value := none, flags := roundFlags r.outcome r.tallies } }

/-- How a round of cell `c` comes to be handed on, with the walk-end reports that are then on their way. -/
inductive Closing (s : State) (c : CellId) (r : Round) : List WalkReport → Round → Prop
  | early (cause : RoundOutcome) (early : cause ≠ .complete ∧ cause ≠ .faulted) (collecting : r.phase = .collecting)
      (noWalk : r.walkInFlight = none) (noEntry : cellEntries s c = []) :
      Closing s c r s.walkReports
        (shutRound (({ r with outcome := some cause, deadline := 0 } : Round).settlePending .dropped))
  | absorbing (absorbing : r.phase = .absorbing) : Closing s c r s.walkReports (shutRound r)
  | clean {value : Option Int} {t : Tallies} (collecting : r.phase = .collecting) (noWalk : r.walkInFlight = none)
      (all : r.arrived = r.participants) (stage : outputStage r.settings r.accumulator r.tallies = .result value t) :
      Closing s c r s.walkReports
        { r with
          tallies := t, outcome := some .complete, deadline := 0
          result := some { value := value, flags := roundFlags (some .complete) t } }
  | cleanFault {kind : ExceptionKind} (collecting : r.phase = .collecting) (noWalk : r.walkInFlight = none)
      (all : r.arrived = r.participants) (stage : outputStage r.settings r.accumulator r.tallies = .raised kind) :
      Closing s c r s.walkReports
        (shutRound { r with outcome := some .faulted, fault := some { kind := kind, element := none } })
  | drained {kind : ReportKind → Bool} {m : WalkReport} (draining : r.phase = .draining)
      (found : s.walkReports.find? (reportFor c kind) = some m) :
      Closing s c r (s.walkReports.eraseP (reportFor c kind))
        (shutRound (r.arrive m.host (reportStatus m.kind)).clearWalk)

/-- How a walk of unit `w` comes to end: the answers that then wait to be taken, the window, and the report it sends. -/
inductive WalkEnding (s : State) (w : UnitId) (walk : Walk) :
    Vector (Option Answer) 17 → Vector (Option Place) 4 → ReportKind → Prop
  | cut : WalkEnding s w walk s.answers s.units[w].window .cut
  | faulted {k : PlaceId} {a : Answer} {place : Place} {kind : ExceptionKind} {index : Nat} {address : Addr}
      {window : Vector (Option Place) 4} (answer : s.answers[placeSlot w k] = some a)
      (inUse : s.units[w].window[k] = some place)
      (treated :
        treatElements walk 4 s.units[w].working s.units[w].tallies
            (s.units[w].window.set k (some { place with answer := some a })) = .faulted kind index address window) :
      WalkEnding s w walk (s.answers.set (placeSlot w k) none) window (.fault kind index address)
  | done {k : PlaceId} {a : Answer} {place : Place} {working : Option Int} {tallies : Tallies}
      {window : Vector (Option Place) 4} (answer : s.answers[placeSlot w k] = some a)
      (inUse : s.units[w].window[k] = some place)
      (treated :
        treatElements walk 4 s.units[w].working s.units[w].tallies
            (s.units[w].window.set k (some { place with answer := some a })) = .goesOn working tallies window) :
      WalkEnding s w walk (s.answers.set (placeSlot w k) none) window (.done working tallies)

/-- The instructions that carry a PORT CONTROL word. -/
def writesControl (i : Instr) (h : HostId) (word : Word) : Prop :=
  i = .discard h word ∨ i = .ack h word ∨ i = .setEnables h word ∨ i = .selectView h word ∨ i = .portReset h word

/-- The instructions whose event may hand a round on. -/
def handsOn : Instr → Bool
  | .contribute _ | .abort _ | .walkEndDone _ | .walkEndFault _ | .walkEndCut _ | .deadlineTimerTick _
  | .deadlineExpiry _ | .lossNotice _ => true
  | _ => false

/-- One change that the event of an instruction makes. -/
inductive Change (i : Instr) (s : State) : State → Prop
  -- the host ports and the completion queues
  | port (h : HostId) {p : HostPort} (change : PortChange s.ports[h] p) : Change i s (s.putPort h p)
  | lossTaken (h : HostId) (sent : s.ports[h].lossNotices ≠ 0) (gone : membershipCount s h = 0) :
      Change i s (s.putPort h { s.ports[h] with lossNotices := s.ports[h].lossNotices - 1 }.returnAck)
  | control (h : HostId) (word : Word) (row : writesControl i h word) (noReset : word.getLsbD 31 = false)
      (free : busHeld s.ports[h] = false) :
      Change i s ((s.putPort h (s.ports[h].control word)).putQueue h
        { s.queues[h] with latch := s.queues[h].latch &&& ~~~(controlAck word) })
  | portWasReset (h : HostId) (undecided : awaitsDecision s.ports[h] = false) : Change i s (s.resetPort h)
  | wordRead (h : HostId) (word : Word) : Change i s { s with busData := s.busData.set h word }
  | read (h : HostId) : Change i s (s.putQueue h (readQueue s.queues[h]))
  | noticed (h : HostId) (e : Entry) (credit : placesTaken s.queues[h] < 32) :
      Change i s (s.putQueue h
        { s.queues[h] with entries := s.queues[h].entries ++ [e], latch := s.queues[h].latch ||| entryLatch e })
  -- the cells
  | opened (c : CellId) (h : HostId) (participants : HostSet) (settings : Settings) (repeats : Bool) (timeout : Nat)
      (destination : Option Addr) (free : s.cells[c].round = none) (row : i = .openCell h) :
      Change i s (s.enterCollecting c (freshRound h participants settings repeats false timeout destination))
  | posted (c : CellId) (r : Round) (e : Contribution) {words : List Word} (round : s.cells[c].round = some r)
      (collecting : r.phase = .collecting) (participant : member r.participants e.host = true)
      (fresh : member r.posted e.host = false) (cell : e.cell = c) (number : e.round = s.cells[c].number)
      (prescale : prescaleSound e) (length : s.contributions.length < 32) (quota : s.hostCounts[e.host] < 16)
      (credit : placesTaken s.queues[e.host] < 32) (handed : s.ports[e.host].framing = .delivering words .handed) :
      Change i s (((s.reserve e.host).putRound c (r.post e.host)).enqueue e)
  | joined (c : CellId) (r : Round) (h : HostId) {r' : Round} {words : List Word} (round : s.cells[c].round = some r)
      (change : JoinChange h r r') (credit : placesTaken s.queues[h] < 32)
      (handed : s.ports[h].framing = .delivering words .handed) :
      Change i s ((s.reserve h).putRound c r')
  | kept (c : CellId) (r : Round) {r' : Round} (round : s.cells[c].round = some r) (change : RoundChange s c r r') :
      Change i s (s.putRound c r')
  | withdrawn (h : HostId) (sent : s.ports[h].lossNotices ≠ 0) : Change i s { s with cells := s.cells.map (loseHost h) }
  | freed (c : CellId) (r : Round) (round : s.cells[c].round = some r) (held : r.phase = .held) : Change i s (s.goFree c)
  | reported (c : CellId) (r : Round) {kind : ReportKind → Bool} {m : WalkReport} {r' : Round}
      (round : s.cells[c].round = some r) (collecting : r.phase = .collecting)
      (found : s.walkReports.find? (reportFor c kind) = some m) (change : ReportChange s c m r r') :
      Change i s
        { s with
          walkReports := s.walkReports.eraseP (reportFor c kind)
          cells := s.cells.set c { number := s.cells[c].number, round := some r' } }
  | closed (c : CellId) (r : Round) {reports : List WalkReport} {q : Round} (round : s.cells[c].round = some r)
      (closing : Closing s c r reports q) (row : handsOn i = true) :
      Change i s
        { s with
          walkReports := reports
          cells := s.cells.set c (cellHandedOn s.cells[c].number q)
          queues := (s.handOn c q).queues
          publisher := (s.handOn c q).publisher
          publicationQueue := (s.handOn c q).publicationQueue }
  | published (c : CellId) (r : Round) {m : PublicationReport} (round : s.cells[c].round = some r)
      (publishing : r.phase = .publishing) (found : s.publicationReports.find? (publicationFor c) = some m)
      (row : i = .publicationDone c) :
      Change i s
        { s with
          publicationReports := s.publicationReports.eraseP (publicationFor c)
          cells := s.cells.set c (disposed s.cells[c].number { r with publication := some m.status })
          queues := (s.postNotices c s.cells[c].number { r with publication := some m.status }).queues }
  -- the Pending Queue and the Stride Table
  | removed (leaves : Contribution → Bool) : Change i s (s.removeContributions leaves)
  | countCleared (h : HostId) (gone : ∀ e ∈ s.contributions, e.host ≠ h) :
      Change i s { s with hostCounts := s.hostCounts.set h 0 }
  | strideSet (e : StrideId) (value : Int) (writer : Option HostId) (free : s.strides[e].count = 0)
      (range : -8388608 ≤ value ∧ value ≤ 8388607) (row : ∃ h, i = .setStride h) :
      Change i s (s.putStride e { s.strides[e] with value := value, writer := writer })
  -- the walk units
  | dispatched (e : Contribution) (r : Round) (w : UnitId) (first : s.contributions.find? (eligible s) = some e)
      (idle : s.units[w].mode = .idle) (round : s.cells[e.cell].round = some r) (noWalk : r.walkInFlight = none) :
      Change i s (s.dispatchTo e r w)
  | walkEnded (w : UnitId) (walk : Walk) {answers : Vector (Option Answer) 17} {window : Vector (Option Place) 4}
      {kind : ReportKind} (walking : s.units[w].mode = .walking walk)
      (ending : WalkEnding s w walk answers window kind) :
      Change i s (State.endWalk { s with answers := answers } w walk window kind)
  | walkWentOn (w : UnitId) (walk : Walk) {k : PlaceId} {a : Answer} {place : Place} {working : Option Int}
      {tallies : Tallies} {window : Vector (Option Place) 4} (walking : s.units[w].mode = .walking walk)
      (answer : s.answers[placeSlot w k] = some a) (inUse : s.units[w].window[k] = some place)
      (treated :
        treatElements walk 4 s.units[w].working s.units[w].tallies
            (s.units[w].window.set k (some { place with answer := some a })) = .goesOn working tallies window) :
      Change i s (State.putUnit { s with answers := s.answers.set (placeSlot w k) none } w
        { s.units[w] with window := window, working := working, tallies := tallies })
  | placeDrained (w : UnitId) (k : PlaceId) {a : Answer} {place : Place} (stopping : s.units[w].mode = .stopping)
      (answer : s.answers[placeSlot w k] = some a) (inUse : s.units[w].window[k] = some place) :
      Change i s (State.drainPlace { s with answers := s.answers.set (placeSlot w k) none } w k)
  | readIssued (w : UnitId) (walk : Walk) (g : Generator) (k : PlaceId)
      (ready : readReady s.units[w] = some (walk, g, k)) : Change i s (s.issueRead w walk g k)
  -- the memory port and the Publisher
  | granted (requester : Requester) (choice : arbiterChoice s = some requester) :
      Change i s { s with grant := some { requester := requester, withdrawn := false } }
  | declined : Change i s { s with grant := none }
  | readied : Change i s { s with memoryReady := true }
  | writeIssued (record : PublisherRecord) (current : s.publisher = some record) (offered : record.waiting = false) :
      Change i s (s.issueWrite record)
  | slotAnswered (k : SlotId) (a : Answer) (outstanding : s.slots[k].outstanding = true) : Change i s (s.answerSlot k a)
  | slotCounted (k : SlotId) (outstanding : s.slots[k].outstanding = true) (left : 2 ≤ s.slots[k].timer) :
      Change i s (s.putSlot k { s.slots[k] with timer := s.slots[k].timer - 1 })
  | secondOffered (record : PublisherRecord) {data : DataUnit} (row : i = .publisherAnswer)
      (current : s.publisher = some record) (waits : record.waiting = true) (first : record.step = .firstWrite)
      (answer : s.answers[publisherSlot] = some (.ok data)) :
      Change i s
        { s with
          answers := s.answers.set publisherSlot none
          publisher := some { record with step := .secondWrite, waiting := false } }
  | writeReported (record : PublisherRecord) (status : PublicationStatus) (current : s.publisher = some record)
      (waits : record.waiting = true) (answer : s.answers[publisherSlot] ≠ none) :
      Change i s
        { s with
          answers := s.answers.set publisherSlot none
          publicationReports := s.publicationReports ++ [{ cell := record.cell, status := status }]
          publisher := (s.reportPublication record.cell status).publisher
          publicationQueue := (s.reportPublication record.cell status).publicationQueue }
  -- the Timebase, the device reset input and the supplies
  | timePassed (count : Nat) (deadlineTicks : Vector Nat 64) (responseTicks : Vector Nat 17)
      (below : count = 0 ∨ s.deviceReset = false ∧ count < s.periods) :
      Change i s { s with tickCounter := count, deadlineTicks := deadlineTicks, responseTicks := responseTicks }
  | released (straps : BitVec 7) :
      Change i s { s with deviceReset := false, periods := selectedPeriods straps, tickCounter := 0 }
  | restarted (row : i = .deviceReset ∨ i = .suppliesComeUp) (epoch deviceReset : Bool) (periods : Nat)
      (selected : periods = s.periods ∨ periods = Config.powerUpPeriods) :
      Change i s { s.resetBlocks with epoch := epoch, deviceReset := deviceReset, periods := periods }
  -- what no law speaks of: cancels, ticks on their way, the count of losses
  | noted (cancels : List CancelMessage) (deadlineTicks : Vector Nat 64) (responseTicks : Vector Nat 17)
      (lossCount : Nat) :
      Change i s
        { s with
          cancels := cancels, deadlineTicks := deadlineTicks, responseTicks := responseTicks, lossCount := lossCount }

/-- A chain of changes of one event. -/
abbrev Changes (i : Instr) : State → State → Prop :=
  Relation.ReflTransGen (Change i)

/-- What every change keeps, a chain of changes keeps. -/
theorem Changes.keeps {i : Instr} {s t : State} {P : State → Prop} (change : ∀ {s u}, Change i s u → P s → P u)
    (chain : Changes i s t) (h : P s) : P t := by
  induction chain with
  | refl => exact h
  | tail _ last ih => exact change last ih

end Sys2Proof.Machine
end

section
/-! That every next state of `exec` and of `step` is reached by a chain of changes: first the shared operations, then the
rows of the table. -/

namespace Sys2Proof.Machine

open Sys2Proof.Safety

variable {i : Instr} {s : State}

/-- One change is a chain. -/
theorem Change.changes {u : State} (h : Change i s u) : Changes i s u := .single h

/-! ### What an event makes possible -/

theorem makeGrant_changes (i : Instr) (s : State) : Changes i s s.makeGrant := by
  unfold State.makeGrant
  split
  next due =>
    simp only [Bool.and_eq_true, Option.isNone_iff_eq_none] at due
    cases hchoice : arbiterChoice s with
    | none =>
      rw [Option.map_none, ← due.2]
    | some requester => exact (Change.granted requester hchoice).changes
  · exact .refl

theorem makeDispatch_changes (i : Instr) (s : State) : Changes i s s.makeDispatch := by
  rcases makeDispatch_cases s with ⟨h, -⟩ | ⟨e, r, w, hfirst, hfree, hround, h⟩
  · rw [h]
  · obtain ⟨q, hq, hnone⟩ := (eligible_iff s e).1 (List.find?_some hfirst)
    obtain rfl : r = q := Option.some.inj (hround.symm.trans hq)
    rw [h]
    exact (Change.dispatched e r w hfirst ((unitFree_iff s w).1 (List.find?_some hfree)) hround hnone).changes

theorem settle_changes (i : Instr) (s : State) : Changes i s s.settle :=
  settle_keeps (P := Changes i s) (fun t h => h.trans (makeGrant_changes i t))
    (fun t h => h.trans (makeDispatch_changes i t)) .refl

/-! ### Rounds -/

theorem putRound_putRound (s : State) (c : CellId) (r q : Round) : (s.putRound c r).putRound c q = s.putRound c q := by
  simp [putRound_eq]

/-- The notices of a round do not depend on the cells. -/
theorem postNotices_cells (s : State) (cells : Vector Cell 64) (c : CellId) (number : RoundNumber) (r : Round) :
    State.postNotices { s with cells := cells } c number r = { s.postNotices c number r with cells := cells } := by
  simp only [State.postNotices, hostOrder, List.foldl_cons, List.foldl_nil, noticeHost_eq]

/-- A hand-off overwrites the record of its cell. -/
theorem handOn_putRound (s : State) (c : CellId) (r q : Round) : (s.putRound c r).handOn c q = s.handOn c q := by
  unfold State.handOn
  split
  · rw [putRound_putRound]
  · simp only [finishRound_eq, putRound_eq, postNotices_cells]
    simp

theorem drainOrClose_putRound (s : State) (c : CellId) (r q : Round) :
    (s.putRound c r).drainOrClose c q = s.drainOrClose c q := by
  unfold State.drainOrClose
  split
  · simp [putRound_eq]
  · exact handOn_putRound s c r _

/-- An early end overwrites the record of its cell. -/
theorem earlyEnd_putRound (s : State) (c : CellId) (r q : Round) (cause : RoundOutcome) :
    (s.putRound c r).earlyEnd c q cause = s.earlyEnd c q cause := by
  unfold State.earlyEnd
  split
  · exact drainOrClose_putRound (s.removeCell c) c r _
  · exact handOn_putRound s c r _

theorem cleanEnd_putRound (s : State) (c : CellId) (r q : Round) : (s.putRound c r).cleanEnd c q = s.cleanEnd c q := by
  unfold State.cleanEnd
  split <;> exact handOn_putRound s c r _

theorem takeHead_walkReports (s : State) (reports : List WalkReport) :
    State.takeHead { s with walkReports := reports } = { s.takeHead with walkReports := reports } := by
  cases hp : s.publisher <;> cases hq : s.publicationQueue <;> simp only [State.takeHead, hp, hq]

/-- A hand-off does not depend on the walk-end reports. -/
theorem handOn_walkReports (s : State) (c : CellId) (q : Round) (reports : List WalkReport) :
    State.handOn { s with walkReports := reports } c q = { s.handOn c q with walkReports := reports } := by
  unfold State.handOn
  split
  · exact takeHead_walkReports
      { s.putRound c { q with phase := .publishing } with publicationQueue := s.publicationQueue ++ [c] } reports
  · simp only [finishRound_eq, State.postNotices, hostOrder, List.foldl_cons, List.foldl_nil, noticeHost_eq]

/-- Closing a round and handing it on is one change. -/
theorem handOn_changes {c : CellId} {r q : Round} {reports : List WalkReport} (round : s.cells[c].round = some r)
    (closing : Closing s c r reports q) (row : handsOn i = true) : Changes i s (State.handOn { s with walkReports := reports } c q) := by
  rw [handOn_walkReports, handOn_frame]
  exact (Change.closed c r round closing row).changes

theorem cellEntries_removeCell (s : State) (c : CellId) : cellEntries (s.removeCell c) c = [] := by
  simp only [cellEntries, State.removeCell, State.removeContributions_contributions, List.filter_filter]
  simp

theorem removeCell_changes (i : Instr) (s : State) (c : CellId) : Changes i s (s.removeCell c) :=
  (Change.removed _).changes

/-- The early end of a round (R48). -/
theorem earlyEnd_changes {c : CellId} {r : Round} {cause : RoundOutcome} (round : s.cells[c].round = some r)
    (phase : r.phase = .collecting ∨ r.phase = .absorbing) (early : cause ≠ .complete ∧ cause ≠ .faulted)
    (row : handsOn i = true) : Changes i s (s.earlyEnd c r cause) := by
  rcases phase with collecting | absorbing
  · have hremoved : Changes i s (s.removeCell c) := removeCell_changes i s c
    have hround : (s.removeCell c).cells[c].round = some r := round
    cases hwalk : r.walkInFlight with
    | some w =>
      rw [earlyEnd_drains c cause collecting hwalk]
      refine hremoved.trans ((Change.kept c r hround
        (.drains cause early collecting hwalk (cellEntries_removeCell s c))).changes.trans ?_)
      exact (Change.noted _ _ _ _).changes
    | none =>
      have hcause : earlyOutcome r cause = some cause := by simp [earlyOutcome, collecting]
      have hclosed : s.earlyEnd c r cause = (s.removeCell c).handOn c
          (shutRound (({ r with outcome := some cause, deadline := 0 } : Round).settlePending .dropped)) := by
        rw [State.earlyEnd, if_pos collecting, hcause, drainOrClose_closes _ (by rw [settlePending_eq]; exact hwalk)]
        rfl
      rw [hclosed]
      exact hremoved.trans
        (handOn_changes hround (.early cause early collecting hwalk (cellEntries_removeCell s c)) row)
  · have hclosed : s.earlyEnd c r cause = s.handOn c (shutRound r) := by
      rw [State.earlyEnd, if_neg (by simp [absorbing])]
      simp only [earlyOutcome, absorbing, if_true]
      rfl
    rw [hclosed]
    exact handOn_changes round (.absorbing absorbing) row

/-- The clean end of a round in COLLECTING whose participants have all arrived (R37). -/
theorem cleanEnd_changes {c : CellId} {r : Round} (round : s.cells[c].round = some r)
    (collecting : r.phase = .collecting) (noWalk : r.walkInFlight = none) (all : r.arrived = r.participants)
    (row : handsOn i = true) : Changes i s (s.cleanEnd c r) := by
  unfold State.cleanEnd
  split
  next stage => exact handOn_changes round (.clean collecting noWalk all stage) row
  next stage => exact handOn_changes round (.cleanFault collecting noWalk all stage) row

/-- The cell of a report taken, read after it was written. -/
theorem set_round {cells : Vector Cell 64} {c : CellId} {number : RoundNumber} {r : Round} :
    (cells.set c { number := number, round := some r })[c].round = some r := by
  simp

theorem collectReport_changes {c : CellId} {r : Round} {kind : ReportKind → Bool} {m : WalkReport}
    (round : s.cells[c].round = some r) (collecting : r.phase = .collecting)
    (found : s.walkReports.find? (reportFor c kind) = some m) (row : handsOn i = true) :
    Changes i s
      (State.collectReport { s with walkReports := s.walkReports.eraseP (reportFor c kind) } c r m.host m.kind) := by
  cases hkind : m.kind with
  | done accumulator t =>
    have hreported := (Change.reported (i := i) c r round collecting found (.committed hkind)).changes
    unfold State.collectReport State.commitWalk
    dsimp only
    split
    next all =>
      have hclean := hreported.trans (cleanEnd_changes set_round collecting rfl all row)
      exact Eq.mp (congrArg _ (cleanEnd_putRound _ c _ _)) hclean
    · exact hreported
  | fault kind' index address =>
    unfold State.collectReport State.faultRound
    dsimp only
    have hreported := (removeCell_changes i s c).trans (Change.reported (i := i) (s := s.removeCell c) c r round
      collecting found
      (.faulted kind' index address (cellEntries_removeCell s c))).changes
    split
    next all =>
      have hclosed := hreported.trans (handOn_changes set_round (.absorbing rfl) row)
      exact Eq.mp (congrArg _ (handOn_putRound _ c _ _)) hclosed
    · exact hreported
  | cut => exact (Change.reported c r round collecting found .cutAside).changes

/-! ### The loss of a host -/

/-- After the records of all cells have lost `h`, it has no membership left (R63). -/
theorem memberships_loseHost (h : HostId) (cell : Cell) : memberships h (loseHost h cell) = 0 := by
  unfold loseHost
  split
  next hnone => simp [memberships, hnone]
  · split <;> simp [memberships, bit]

theorem membershipCount_loseHost (s : State) (h : HostId) :
    membershipCount { s with cells := s.cells.map (loseHost h) } h = 0 := by
  simp [membershipCount, memberships_loseHost]

theorem loseRound_changes (row : handsOn i = true) (s : State) (c : CellId) : Changes i s (s.loseRound c) := by
  unfold State.loseRound
  split
  · exact .refl
  next r hround =>
    split
    next hphase => exact earlyEnd_changes hround hphase (by decide) row
    · exact .refl

theorem loseRounds_changes (row : handsOn i = true) (s : State) (cells : List CellId) :
    Changes i s (cells.foldl State.loseRound s) := by
  induction cells generalizing s with
  | nil => exact .refl
  | cons c rest ih => exact (loseRound_changes row s c).trans (ih _)

/-- The loss notice of a host (R62 to R64). -/
theorem takeLoss_changes (h : HostId) (sent : s.ports[h].lossNotices ≠ 0) (row : handsOn i = true) :
    Changes i s
      ((s.putPort h { s.ports[h] with lossNotices := s.ports[h].lossNotices - 1 }.returnAck).takeLoss h) := by
  have hwithdrawn := (Change.withdrawn (i := i) (s := s) h sent).changes
  have htaken := hwithdrawn.trans
    (Change.lossTaken (s := { s with cells := s.cells.map (loseHost h) }) h sent (membershipCount_loseHost s h)).changes
  have hcounted := htaken.trans (Change.noted s.cancels s.deadlineTicks s.responseTicks (s.lossCount + 1)).changes
  exact hcounted.trans (loseRounds_changes row _ _)

/-! ### Ports -/

theorem resetPort_undecided (s : State) (h : HostId) : awaitsDecision (s.resetPort h).ports[h] = false := by
  simp only [State.resetPort, State.putQueue_ports, State.putPort_ports, set_same, HostPort.resetRecord,
    HostPort.sendNotices]
  split <;> rfl

theorem resetPortTimes_changes (s : State) (h : HostId) (n : Nat) (undecided : awaitsDecision s.ports[h] = false) :
    Changes i s (s.resetPortTimes h n) := by
  induction n generalizing s with
  | zero => exact .refl
  | succ n ih => exact (Change.portWasReset h undecided).changes.trans (ih _ (resetPort_undecided s h))

theorem takeResetCause_changes (s : State) (h : HostId) : Changes i s (s.takeResetCause h) := by
  unfold State.takeResetCause
  split
  next awaits => exact (Change.port h (.resetDeferred awaits)).changes
  next undecided => exact (Change.portWasReset h (by simpa using undecided)).changes

theorem writeCommand_changes (h : HostId) (word : Word) (free : busHeld s.ports[h] = false) :
    Changes i s (writeCommand s h word) := by
  unfold writeCommand
  split
  · exact .refl
  · exact (Change.port h (.written word free)).changes

theorem writeControl_changes {h : HostId} {word : Word} (row : writesControl i h word)
    (free : busHeld s.ports[h] = false) : Changes i s (writeControl s h word) := by
  unfold writeControl
  split
  · exact .refl
  split
  · exact takeResetCause_changes s h
  next noReset => exact (Change.control h word row (by simpa [controlReset, bitSet_eq] using noReset) free).changes

/-! ### Commands -/

section
variable {h : HostId} {words : List Word}

/-- A decision returned on a command that is with its owner, after changes that leave the port alone. -/
theorem returnDecision_changes {v : State} (handed : s.ports[h].framing = .delivering words .handed)
    (chain : Changes i s v) (ports : v.ports = s.ports) (code : StatusCode) (value : Word) :
    Changes i s (v.returnDecision h words code value) :=
  chain.trans (Change.port h (.decided code value (by rw [ports]; exact handed))).changes

variable (handed : s.ports[h].framing = .delivering words .handed)
include handed

theorem refuseCommand_changes (code : StatusCode) : Changes i s (s.refuseCommand h words code) :=
  returnDecision_changes handed .refl rfl _ _

theorem takeOpen_changes : Changes (.openCell h) s (takeOpen s h words) := by
  unfold takeOpen
  dsimp only
  split
  · exact refuseCommand_changes handed _
  · exact refuseCommand_changes handed _
  next settings hpass hsettings =>
    have hfree : s.cells[(decodeOpen words).cell].round = none := by
      simp only [openRefusal] at hpass
      repeat' split at hpass
      any_goals cases hpass
      next hfree => simpa using hfree
    exact returnDecision_changes handed (Change.opened _ _ _ _ _ _ _ hfree rfl).changes rfl _ _

theorem acceptWait_changes {c : CellId} {r : Round} {named : RoundNumber} (round : s.cells[c].round = some r)
    (pass : waitRefusal s h named s.cells[c].number r = none) :
    Changes i s (acceptWait s h c r) ∧ (acceptWait s h c r).ports = s.ports := by
  simp only [waitRefusal, noCredit, decide_eq_true_eq] at pass
  split at pass
  · cases pass
  split at pass
  · cases pass
  split at pass
  · cases pass
  next fresh credit =>
    unfold acceptWait
    split
    next held =>
      have heq := reserve_enter_eq s h (roundNotice c s.cells[c].number r .waitEnd)
      rw [← putQueue_eq] at heq
      rw [heq]
      exact ⟨(Change.noticed h _ (by omega)).changes, rfl⟩
    next open' =>
      exact ⟨(Change.joined c r h round (.waits open' (by simpa [open'] using fresh)) (by omega) handed).changes, rfl⟩

theorem takeWait_changes : Changes i s (takeWait s h words) := by
  unfold takeWait
  dsimp only
  split
  · exact refuseCommand_changes handed _
  next r hround =>
    split
    · exact refuseCommand_changes handed _
    next hpass =>
      obtain ⟨hchain, hports⟩ := acceptWait_changes handed hround hpass
      exact returnDecision_changes handed hchain hports _ _

theorem takeAbort_changes : Changes (.abort h) s (takeAbort s h words) := by
  unfold takeAbort
  dsimp only
  split
  · exact refuseCommand_changes handed _
  next r hround =>
    split
    · exact refuseCommand_changes handed _
    next hpass =>
      have hphase : r.phase = .collecting ∨ r.phase = .absorbing := by
        simp only [abortRefusal] at hpass
        repeat' split at hpass
        any_goals cases hpass
        tauto
      have hfinal := (Change.kept (i := .abort h) _ r hround (.finalSet (r.final || abortFinal words))).changes
      have hended := hfinal.trans (earlyEnd_changes (cause := .aborted) set_round hphase (by decide) rfl)
      rw [earlyEnd_putRound] at hended
      exact returnDecision_changes handed hended (earlyEnd_ports _ _ _ _) _ _

theorem takeRelease_changes : Changes i s (takeRelease s h words) := by
  unfold takeRelease
  dsimp only
  split
  · exact refuseCommand_changes handed _
  next r hround =>
    split
    · exact refuseCommand_changes handed _
    next hpass =>
      have hheld : r.phase = .held := by
        simp only [releaseRefusal] at hpass
        repeat' split at hpass
        any_goals cases hpass
        tauto
      exact returnDecision_changes handed (Change.freed _ r hround hheld).changes rfl _ _

theorem takeQuery_changes : Changes i s (takeQuery s h words) := by
  unfold takeQuery
  dsimp only
  split
  · exact refuseCommand_changes handed _
  next credit =>
    simp only [noCredit, decide_eq_true_eq] at credit
    rw [reserve_enter_eq, ← putQueue_eq]
    exact returnDecision_changes handed (Change.noticed h _ (by omega)).changes rfl _ _

theorem takeSetStride_changes : Changes (.setStride h) s (takeSetStride s h words) := by
  unfold takeSetStride
  dsimp only
  split
  · exact returnDecision_changes handed .refl rfl _ _
  split
  · exact returnDecision_changes handed .refl rfl _ _
  next range free =>
    exact returnDecision_changes handed (Change.strideSet _ _ _ (by omega) (by omega) ⟨h, rfl⟩).changes rfl _ _

omit handed in
/-- What the checks of CONTRIBUTE against the cell and the queues have found when they pass (R28). -/
theorem roundRefusal_none {f : ContributeFields} {d : Descriptor} {number : RoundNumber} {r : Round}
    (pass : roundRefusal s h f d number r = none) :
    f.round = number ∧ (r.phase = .collecting ∨ r.phase = .absorbing) ∧ member r.participants h = true
      ∧ member r.posted h = false ∧ (r.phase = .collecting → s.contributions.length < 32 ∧ s.hostCounts[h] < 16)
      ∧ placesTaken s.queues[h] < 32 := by
  simp only [roundRefusal, noCredit, decide_eq_true_eq] at pass
  repeat' split at pass
  any_goals cases pass
  rename_i hnumber hphase hparticipant hfresh _ hfull hquota hcredit
  refine ⟨by simpa using hnumber, by tauto, by simpa using hparticipant, by simpa using hfresh, fun hc => ?_, by omega⟩
  exact ⟨by simpa [hc] using hfull, by simpa [hc] using hquota⟩

theorem acceptContribute_changes {f : ContributeFields} {d : Descriptor} {r : Round}
    (round : s.cells[f.cell].round = some r) (field : contributeBadField f = false)
    (pass : roundRefusal s h f d s.cells[f.cell].number r = none) :
    Changes (.contribute h) s (acceptContribute s h f d r) ∧ (acceptContribute s h f d r).ports = s.ports := by
  obtain ⟨hnumber, hphase, hparticipant, hfresh, hroom, hcredit⟩ := roundRefusal_none pass
  have hprescale : -16 ≤ f.prescale ∧ f.prescale ≤ 15 := by
    simp only [contributeBadField, Bool.or_eq_false_iff, decide_eq_false_iff_not] at field
    omega
  unfold acceptContribute
  split
  next collecting =>
    obtain ⟨hlength, hquota⟩ := hroom collecting
    exact ⟨(Change.posted f.cell r (contributionOf h f d) round collecting hparticipant hfresh rfl hnumber hprescale
      hlength hquota hcredit handed).changes, rfl⟩
  next other =>
    have absorbing : r.phase = .absorbing := hphase.resolve_left other
    have hjoined := (Change.joined (i := .contribute h) f.cell r h round (.absorbed absorbing hparticipant hfresh) hcredit
      handed).changes
    unfold State.absorb
    dsimp only
    split
    · refine ⟨?_, closeEarly_ports _ _ _⟩
      have hclosed := hjoined.trans (handOn_changes set_round (.absorbing absorbing) rfl)
      exact Eq.mp (congrArg _ (handOn_putRound _ _ _ _)) hclosed
    · exact ⟨hjoined, rfl⟩

theorem takeContribute_changes : Changes (.contribute h) s (takeContribute s h words) := by
  unfold takeContribute
  dsimp only
  split
  · exact refuseCommand_changes handed _
  split
  · exact refuseCommand_changes handed _
  split
  · exact refuseCommand_changes handed _
  split
  · exact refuseCommand_changes handed _
  next field _ _ r hround =>
    split
    · exact refuseCommand_changes handed _
    next hpass =>
      obtain ⟨hchain, hports⟩ := acceptContribute_changes handed hround (by simpa using field) hpass
      exact returnDecision_changes handed hchain hports _ _

end
end Sys2Proof.Machine
end

section
/-! The rows of the table: the next state of each is reached by a chain of changes, and so is that of a step. -/

namespace Sys2Proof.Machine

open Sys2Proof.Safety

variable {i : Instr} {s t : State}

/-- The event of an instruction takes `s` to `t`: a chain of changes, and then all that they make possible. -/
def Event (i : Instr) (s t : State) : Prop :=
  ∃ u, Changes i s u ∧ t = u.settle

/-- A completed event makes what it makes possible. -/
theorem completed_event {u : State} (chain : Changes i s u) (next : completed u = .next t) : Event i s t := by
  cases next
  exact ⟨u, chain, rfl⟩

theorem ownerTakes_event {h : HostId} {code : Nat} {act : List Word → State}
    (acts : ∀ words, s.ports[h].framing = .delivering words .handed → Changes i s (act words))
    (next : ownerTakes s h code act = .next t) : Event i s t := by
  unfold ownerTakes handedCommand at next
  split at next
  · cases next
  next words handed =>
    have hframing : s.ports[h].framing = .delivering words .handed := by
      split at handed
      next delivering =>
        split at handed
        · cases handed; exact delivering
        · cases handed
      · cases handed
    exact completed_event (acts words hframing) next

theorem hostAccess_event {h : HostId} {after : State}
    (chain : busHeld s.ports[h] = false → Changes i s after) (next : hostAccess s h after = .next t) :
    Event i s t := by
  unfold hostAccess at next
  split at next
  · cases next
  next free => exact completed_event (chain (by simpa using free)) next

theorem execCommandDecision_event {h : HostId} (next : execCommandDecision h s = .next t) : Event i s t := by
  unfold execCommandDecision at next
  split at next
  next decided =>
    refine completed_event ?_ next
    have htaken := (Change.port (i := i) h (.decisionTaken decided)).changes
    refine htaken.trans (resetPortTimes_changes _ h _ ?_)
    simp only [State.putPort_ports, set_same]
    rfl
  · cases next

theorem execResponseRead_event {h : HostId} (next : execResponseRead h s = .next t) : Event i s t := by
  refine hostAccess_event (fun _ => ?_) next
  have hword := (Change.wordRead (i := i) (s := s) h (responseWord s h)).changes
  split
  · exact hword
  · exact hword.trans (Change.read h).changes

theorem execResetLineAsserted_event {h : HostId} (next : execResetLineAsserted h s = .next t) : Event i s t := by
  unfold execResetLineAsserted at next
  split at next
  · cases next
  · exact completed_event ((Change.port h (.lineSet true)).changes.trans (takeResetCause_changes _ h)) next

theorem execResetLineReleased_event {h : HostId} (next : execResetLineReleased h s = .next t) : Event i s t := by
  unfold execResetLineReleased at next
  split at next
  · exact completed_event (Change.port h (.lineSet false)).changes next
  · cases next

theorem execAcknowledgement_event {h : HostId} (next : execAcknowledgement h s = .next t) : Event i s t := by
  unfold execAcknowledgement at next
  split at next
  · cases next
  next returned => exact completed_event (Change.port h (.acknowledged returned)).changes next

theorem execRemoval_event {h : HostId} (next : execRemoval h s = .next t) : Event i s t := by
  unfold execRemoval at next
  split at next
  · cases next
  next sent =>
    refine completed_event ?_ next
    have htaken := (Change.port (i := i) h (.removalTaken sent)).changes
    refine htaken.trans ((Change.removed fun e => decide (e.host = h)).changes.trans ?_)
    refine (Change.countCleared h fun e he => ?_).changes
    simpa using (List.mem_filter.mp he).2

theorem cutWalk_changes {w : UnitId} {walk : Walk} (walking : s.units[w].mode = .walking walk) :
    Changes i s (s.cutWalk w walk) :=
  (Change.walkEnded w walk walking .cut).changes

theorem execCut_event {w : UnitId} {h : HostId} (next : execCut w h s = .next t) : Event i s t := by
  unfold execCut at next
  split at next
  · cases next
  next sent =>
    refine completed_event ?_ next
    have htaken := (Change.port (i := i) h (.cutTaken w sent)).changes
    refine htaken.trans ?_
    unfold State.takeCut
    split
    next walking =>
      split
      · exact cutWalk_changes walking
      · exact .refl
    · exact .refl
    · exact .refl

theorem execCancel_event {w : UnitId} {c : CellId} {round : RoundNumber} (next : execCancel w c round s = .next t) :
    Event i s t := by
  unfold execCancel at next
  split at next
  · refine completed_event ?_ next
    have htaken := (Change.noted (i := i) (s := s) (s.cancels.erase { unit := w, cell := c, round := round })
      s.deadlineTicks s.responseTicks s.lossCount).changes
    refine htaken.trans ?_
    unfold State.takeCancel
    split
    next walking =>
      split
      · exact cutWalk_changes walking
      · exact .refl
    · exact .refl
    · exact .refl
  · cases next

theorem takeReport_event {c : CellId} {kind : ReportKind → Bool} (row : handsOn i = true)
    (next : takeReport s c kind = .next t) :
    Event i s t := by
  unfold takeReport at next
  split at next
  · cases next
  next found =>
    dsimp only at next
    split at next
    · cases next
    next r round =>
      split at next
      next collecting => exact completed_event (collectReport_changes round collecting found row) next
      next draining => exact completed_event (handOn_changes round (.drained draining found) row) next
      all_goals cases next

theorem execPublicationDone_event {c : CellId} (next : execPublicationDone c s = .next t) :
    Event (.publicationDone c) s t := by
  unfold execPublicationDone at next
  split at next
  · cases next
  next m found =>
    split at next
    · cases next
    next r round =>
      split at next
      next publishing =>
        refine completed_event ?_ next
        have hpublished := (Change.published c r round publishing found rfl).changes
        rw [finishRound_eq]
        refine Eq.mp (congrArg (fun queues => Changes (.publicationDone c) s { s with
          publicationReports := s.publicationReports.eraseP (publicationFor c)
          cells := s.cells.set c (disposed s.cells[c].number { r with publication := some m.status })
          queues := queues }) ?_) hpublished
        simp only [State.postNotices, hostOrder, List.foldl_cons, List.foldl_nil, noticeHost_eq]
      · cases next

theorem cellTick_changes (row : handsOn i = true) (c : CellId) : Changes i s (s.cellTick c) := by
  unfold State.cellTick
  split
  · exact .refl
  next r round =>
    split
    next expires =>
      have hphase : r.phase = .collecting ∨ r.phase = .absorbing := by
        simp only [expiring, deadlineRuns, Bool.and_eq_true, Bool.or_eq_true, decide_eq_true_eq] at expires
        exact expires.1.2
      exact earlyEnd_changes round hphase (by decide) row
    split
    next still runs =>
      have hleft : 2 ≤ r.deadline := by
        simp only [expiring, runs, Bool.true_and, decide_eq_true_eq] at still
        omega
      exact (Change.kept c r round (.counted runs hleft)).changes
    · exact .refl

theorem useDeadlineTick_changes (c : CellId) : Changes i s (s.useDeadlineTick c) :=
  (Change.noted s.cancels _ s.responseTicks s.lossCount).changes

theorem execDeadlineTimerTick_event {c : CellId} (next : execDeadlineTimerTick c s = .next t) :
    Event (.deadlineTimerTick c) s t := by
  unfold execDeadlineTimerTick at next
  split at next
  · cases next
  · exact completed_event ((useDeadlineTick_changes c).trans (cellTick_changes rfl c)) next

theorem execDeadlineExpiry_event {c : CellId} (next : execDeadlineExpiry c s = .next t) :
    Event (.deadlineExpiry c) s t := by
  unfold execDeadlineExpiry at next
  split at next
  · cases next
  split at next
  · exact completed_event ((useDeadlineTick_changes c).trans (cellTick_changes rfl c)) next
  · cases next

theorem execLossNotice_event {h : HostId} (next : execLossNotice h s = .next t) : Event (.lossNotice h) s t := by
  unfold execLossNotice at next
  split at next
  · cases next
  next sent => exact completed_event (takeLoss_changes h sent rfl) next

theorem execReadGrantTaken_event {w : UnitId} (next : execReadGrantTaken w s = .next t) : Event i s t := by
  unfold execReadGrantTaken at next
  split at next
  · cases next
  split at next
  · split at next
    next ready => exact completed_event (Change.readIssued w _ _ _ ready).changes next
    · exact completed_event Change.declined.changes next
  · cases next

theorem execWriteGrantTaken_event (next : execWriteGrantTaken s = .next t) : Event i s t := by
  unfold execWriteGrantTaken at next
  split at next
  · cases next
  split at next
  · split at next
    next record current =>
      split at next
      · exact completed_event Change.declined.changes next
      next offered => exact completed_event (Change.writeIssued record current (by simpa using offered)).changes next
    · exact completed_event Change.declined.changes next
  · cases next

theorem execMemoryResponse_event {tag : BitVec 10} {answer : MemAnswer}
    (next : execMemoryResponse tag answer s = .next t) : Event i s t := by
  unfold execMemoryResponse at next
  split at next
  · exact completed_event .refl next
  next k matched =>
    refine completed_event (Change.slotAnswered k _ ?_).changes next
    unfold matchedSlot at matched
    split at matched
    · cases matched
    split at matched
    next outstanding =>
      cases matched
      exact outstanding.1
    · cases matched

theorem slotTick_changes (k : SlotId) : Changes i s (s.slotTick k) := by
  unfold State.slotTick
  split
  · exact .refl
  next outstanding =>
    have houtstanding : s.slots[k].outstanding = true := by simpa using outstanding
    split
    · exact (Change.slotAnswered k _ houtstanding).changes
    · exact (Change.slotCounted k houtstanding (by omega)).changes

theorem useResponseTick_changes (k : SlotId) : Changes i s (s.useResponseTick k) :=
  (Change.noted s.cancels s.deadlineTicks _ s.lossCount).changes

theorem execResponseTimerTick_event {k : SlotId} (next : execResponseTimerTick k s = .next t) : Event i s t := by
  unfold execResponseTimerTick at next
  split at next
  · cases next
  · exact completed_event ((useResponseTick_changes k).trans (slotTick_changes k)) next

theorem execResponseTimeout_event {k : SlotId} (next : execResponseTimeout k s = .next t) : Event i s t := by
  unfold execResponseTimeout at next
  split at next
  · cases next
  split at next
  · exact completed_event ((useResponseTick_changes k).trans (slotTick_changes k)) next
  · cases next

theorem execWalkUnitAnswer_event {w : UnitId} {k : PlaceId} (next : execWalkUnitAnswer w k s = .next t) :
    Event i s t := by
  unfold execWalkUnitAnswer at next
  split at next
  any_goals cases next
  next a place answer inUse notIdle =>
    refine ⟨_, ?_, rfl⟩
    unfold State.takeAnswer
    split
    next walk walking =>
      unfold State.advanceWalk
      split
      next treated => exact (Change.walkEnded (s := s) w walk walking (.faulted answer inUse treated)).changes
      next treated =>
        split
        · exact (Change.walkEnded (s := s) w walk walking (.done answer inUse treated)).changes
        · exact (Change.walkWentOn (s := s) w walk walking answer inUse treated).changes
    next stopping => exact (Change.placeDrained (s := s) w k stopping answer inUse).changes
    next idle => exact absurd idle notIdle

theorem publisherTakes_changes {record : PublisherRecord} {a : Answer} (row : i = .publisherAnswer)
    (current : s.publisher = some record) (waits : record.waiting = true)
    (answer : s.answers[publisherSlot] = some a) :
    Changes i s (State.publisherTakes { s with answers := s.answers.set publisherSlot none } record a) := by
  have hreported : ∀ status, Changes i s
      (State.reportPublication { s with answers := s.answers.set publisherSlot none } record.cell status) := by
    intro status
    refine Eq.mp (congrArg _ ?_)
      (Change.writeReported (i := i) record status current waits (by rw [answer]; simp)).changes
    cases hq : s.publicationQueue <;> simp only [State.reportPublication, State.takeHead, hq]
  unfold State.publisherTakes
  split
  next first => exact (Change.secondOffered record row current waits first answer).changes
  all_goals exact hreported _

theorem execPublisherAnswer_event (next : execPublisherAnswer s = .next t) : Event .publisherAnswer s t := by
  unfold execPublisherAnswer at next
  split at next
  · cases next
  · cases next
  next answer current =>
    split at next
    next waits => exact completed_event (publisherTakes_changes rfl current waits answer) next
    · cases next

theorem issueTick_changes : Changes i s s.issueTick :=
  (Change.timePassed 0 _ _ (.inl rfl)).changes

theorem execTick_event (next : execTick s = .next t) : Event i s t := by
  unfold execTick at next
  split at next
  · cases next
  · exact completed_event issueTick_changes next

theorem execDeviceReset_event (next : execDeviceReset s = .next t) : Event .deviceReset s t := by
  unfold execDeviceReset at next
  split at next
  · cases next
  · exact completed_event (Change.restarted (.inl rfl) _ _ _ (.inl rfl)).changes next

theorem execDeviceResetRelease_event {straps : BitVec 7} (next : execDeviceResetRelease straps s = .next t) :
    Event i s t := by
  unfold execDeviceResetRelease at next
  split at next
  · exact completed_event (Change.released straps).changes next
  · cases next

theorem execSuppliesComeUp_event (next : execSuppliesComeUp s = .next t) : Event .suppliesComeUp s t :=
  completed_event (Change.restarted (.inr rfl) _ _ _ (.inr rfl)).changes next

/-- Every next state of every row is reached by a chain of changes. -/
theorem exec_event (next : exec i s = .next t) : Event i s t := by
  cases i with
  | openCell h => exact ownerTakes_event (fun _ => takeOpen_changes) next
  | contribute h => exact ownerTakes_event (fun _ => takeContribute_changes) next
  | wait h => exact ownerTakes_event (fun _ => takeWait_changes) next
  | abort h => exact ownerTakes_event (fun _ => takeAbort_changes) next
  | release h => exact ownerTakes_event (fun _ => takeRelease_changes) next
  | query h => exact ownerTakes_event (fun _ => takeQuery_changes) next
  | setStride h => exact ownerTakes_event (fun _ => takeSetStride_changes) next
  | readStride h => exact ownerTakes_event (fun _ handed => returnDecision_changes handed .refl rfl _ _) next
  | unknownCommand h word => exact hostAccess_event (writeCommand_changes h word) next
  | commandDecision h => exact execCommandDecision_event next
  | ignoredWrite h location word => exact hostAccess_event (fun _ => .refl) next
  | responseRead h => exact execResponseRead_event next
  | portReset h word =>
    exact hostAccess_event (writeControl_changes (.inr (.inr (.inr (.inr rfl))))) next
  | discard h word => exact hostAccess_event (writeControl_changes (.inl rfl)) next
  | ack h word => exact hostAccess_event (writeControl_changes (.inr (.inl rfl))) next
  | setEnables h word => exact hostAccess_event (writeControl_changes (.inr (.inr (.inl rfl)))) next
  | selectView h word => exact hostAccess_event (writeControl_changes (.inr (.inr (.inr (.inl rfl))))) next
  | resetLineAsserted h => exact execResetLineAsserted_event next
  | resetLineReleased h => exact execResetLineReleased_event next
  | acknowledgement h => exact execAcknowledgement_event next
  | lossNotice h => exact execLossNotice_event next
  | removal h => exact execRemoval_event next
  | cut w h => exact execCut_event next
  | cancel w c round => exact execCancel_event next
  | walkEndDone c => exact takeReport_event rfl next
  | walkEndFault c => exact takeReport_event rfl next
  | walkEndCut c => exact takeReport_event rfl next
  | publicationDone c => exact execPublicationDone_event next
  | dispatch => exact completed_event .refl next
  | arbiterGrant => exact completed_event Change.readied.changes next
  | readGrantTaken w => exact execReadGrantTaken_event next
  | writeGrantTaken => exact execWriteGrantTaken_event next
  | memoryResponse tag answer => exact execMemoryResponse_event next
  | responseTimerTick k => exact execResponseTimerTick_event next
  | responseTimeout k => exact execResponseTimeout_event next
  | walkUnitAnswer w k => exact execWalkUnitAnswer_event next
  | publisherAnswer => exact execPublisherAnswer_event next
  | tick => exact execTick_event next
  | deadlineTimerTick c => exact execDeadlineTimerTick_event next
  | deadlineExpiry c => exact execDeadlineExpiry_event next
  | deviceReset => exact execDeviceReset_event next
  | deviceResetRelease straps => exact execDeviceResetRelease_event next
  | commandWrite h word => exact hostAccess_event (writeCommand_changes h word) next
  | suppliesComeUp => exact execSuppliesComeUp_event next

/-- One clock period (R174). It is no event of an instruction; the changes it makes are those that TICK makes too. -/
theorem clockPeriod_changes : Changes i s s.clockPeriod := by
  unfold State.clockPeriod
  split
  · exact .refl
  next running =>
    split
    next below => exact (Change.timePassed _ s.deadlineTicks s.responseTicks (.inr ⟨by simpa using running, below⟩)).changes
    · exact issueTick_changes

/-- The event of a step: that of the command at the front, or a clock period. -/
theorem step_event (next : step s = .next t) : ∃ i rest, Event i { s with pending := rest } t := by
  unfold step at next
  split at next
  · exact ⟨.tick, s.pending, completed_event clockPeriod_changes next⟩
  next i rest _ => exact ⟨i, rest, exec_event next⟩

/-! ### Laws -/

/-- What every change keeps, an event keeps. -/
theorem Event.keeps {P : State → Prop} (event : Event i s t) (change : ∀ {s u}, Change i s u → P s → P u) (h : P s) :
    P t := by
  obtain ⟨u, chain, rfl⟩ := event
  exact Changes.keeps change (chain.trans (settle_changes i u)) h

/-- A law that every change keeps, and that does not speak of the queue of commands, every step keeps. -/
theorem step_keeps {P : State → Prop} (next : step s = .next t)
    (change : ∀ {i s u}, Change i s u → P s → P u) (h : ∀ rest, P { s with pending := rest }) : P t := by
  obtain ⟨i, rest, event⟩ := step_event next
  exact event.keeps change (h rest)

/-- A step leaves no dispatch to make (R99). -/
theorem step_dispatchLaw (next : step s = .next t) : DispatchLaw t := by
  obtain ⟨i, rest, u, -, rfl⟩ := step_event next
  exact settle_dispatchLaw u

/-- A step leaves no grant due (R124). -/
theorem step_grantLaw (next : step s = .next t) : GrantLaw t := by
  obtain ⟨i, rest, u, -, rfl⟩ := step_event next
  exact settle_grantLaw u

/-! ### The queue of commands -/

/-- Settles O2: no change touches the queue of commands. -/
theorem execKeepsTheCommandQueue : Obligations.ExecKeepsTheCommandQueue := by
  intro i s t next
  refine (exec_event next).keeps (P := fun u => u.pending = s.pending) (fun change h => ?_) rfl
  cases change <;> exact h

end Sys2Proof.Machine
end

section
/-! Proofs for the laws of the host ports and the completion queues: what each change does to a port and to a queue, then
the statement. -/

namespace Sys2Proof.Machine

open Sys2Proof.Safety

variable {i : Instr} {s u : State}

/-- A property of every entry of a table survives the writing of one entry that has it. -/
theorem forall_set {α : Type} {n : Nat} {v : Vector α n} {i : Fin n} {x : α} {P : Fin n → α → Prop} (hx : P i x)
    (hv : ∀ j, P j v[j]) : ∀ j, P j (v.set i x)[j] := by
  intro j
  by_cases h : i = j
  · subst h
    rw [set_same]
    exact hx
  · rw [set_other _ _ _ _ h]
    exact hv j

/-! ### Queues -/

/-- What every notice keeps of a queue, the notices of a round keep. -/
theorem postNotices_keeps {P : HostId → CompletionQueue → Prop}
    (after : ∀ g q e, P g q → P g (queueAfter s.ports[g] q e)) (h : ∀ g, P g s.queues[g]) (c : CellId)
    (number : RoundNumber) (r : Round) : ∀ g, P g (s.postNotices c number r).queues[g] := by
  intro g
  rw [(postNotices_spec s c number r).2 g, queueNoticed]
  refine List.foldlRecOn _ _ (h g) fun q hq e _ => after g q e hq

/-- What every notice keeps of a queue, a hand-off keeps. -/
theorem handOn_keeps_queues {P : HostId → CompletionQueue → Prop}
    (after : ∀ g q e, P g q → P g (queueAfter s.ports[g] q e)) (h : ∀ g, P g s.queues[g]) (c : CellId) (r : Round) :
    ∀ g, P g (s.handOn c r).queues[g] := by
  obtain ⟨published, finished⟩ := handOn_spec s c r
  by_cases hd : r.destination = none
  · rw [State.handOn, hd]
    dsimp only
    rw [finishRound_eq]
    exact postNotices_keeps after h c _ _
  · rw [(published hd).1]
    exact h

theorem placesTaken_queueAfter (p : HostPort) (q : CompletionQueue) (e : Entry) :
    placesTaken (queueAfter p q e) = placesTaken q := by
  unfold queueAfter
  split
  · rfl
  · simp only [placesTaken, withLine, List.length_append, List.length_singleton]
    omega

theorem placesTaken_readQueue (q : CompletionQueue) : placesTaken (readQueue q) ≤ placesTaken q := by
  unfold readQueue
  split
  · exact le_rfl
  next hentries =>
    split
    · exact le_rfl
    · simp [placesTaken, hentries]

theorem change_creditLaw (change : Change i s u) (h : CreditLaw s) : CreditLaw u := by
  have hafter : ∀ (g : HostId) q e, placesTaken q ≤ 32 → placesTaken (queueAfter s.ports[g] q e) ≤ 32 :=
    fun g q e hq => (placesTaken_queueAfter _ q e).trans_le hq
  cases change with
  | control h' => exact forall_set (P := fun _ q => placesTaken q ≤ 32) (h h') h
  | portWasReset h' => exact forall_set (P := fun _ q => placesTaken q ≤ 32) (by simp [placesTaken, clearQueue]) h
  | read h' => exact forall_set (P := fun _ q => placesTaken q ≤ 32) ((placesTaken_readQueue _).trans (h h')) h
  | noticed h' e credit =>
    refine forall_set (P := fun _ q => placesTaken q ≤ 32) ?_ h
    simp only [placesTaken, List.length_append, List.length_singleton] at credit ⊢
    omega
  | posted c r e _ _ _ _ _ _ _ _ _ credit =>
    refine forall_set (P := fun _ q => placesTaken q ≤ 32) ?_ h
    simp only [placesTaken] at credit ⊢
    omega
  | joined c r h' _ _ credit =>
    refine forall_set (P := fun _ q => placesTaken q ≤ 32) ?_ h
    simp only [placesTaken] at credit ⊢
    omega
  | closed c r => exact handOn_keeps_queues (P := fun _ q => placesTaken q ≤ 32) hafter h c _
  | published c r => exact postNotices_keeps (P := fun _ q => placesTaken q ≤ 32) hafter h c _ _
  | restarted => exact fun g => by simp [State.resetBlocks, State.reset, CompletionQueue.reset, placesTaken]
  | _ => exact h

/-! ### Notification lines -/

/-- The line of a queue stands at the level of its port's enables. -/
def lineFollows (p : HostPort) (q : CompletionQueue) : Prop :=
  q.line = lineLevel q p

theorem lineFollows_queueAfter {p : HostPort} {q : CompletionQueue} (e : Entry) (h : lineFollows p q) :
    lineFollows p (queueAfter p q e) := by
  unfold queueAfter
  split
  · exact h
  · simp [lineFollows, lineLevel_eq, withLine]

/-- The enables of a port are changed by a PORT CONTROL word and a port reset alone. -/
theorem PortChange.enables {p p' : HostPort} (change : PortChange p p') :
    p'.completionEnable = p.completionEnable ∧ p'.errorEnable = p.errorEnable := by
  cases change with
  | written word =>
    unfold HostPort.writeCommand HostPort.complete
    repeat' split
    all_goals exact ⟨rfl, rfl⟩
  | _ => exact ⟨rfl, rfl⟩

/-- A line that follows a port's enables still does when the port changes and they do not. -/
theorem lineLaw_putPort {h : HostId} {p : HostPort} (hline : LineLaw s)
    (enables : p.completionEnable = s.ports[h].completionEnable ∧ p.errorEnable = s.ports[h].errorEnable) :
    LineLaw (s.putPort h p) := by
  refine forall_set (P := fun g p => lineFollows p s.queues[g]) ?_ hline
  unfold lineFollows lineLevel
  rw [enables.1, enables.2]
  exact hline h

theorem lineLaw_putQueue (h : HostId) (q : CompletionQueue) (hline : ∀ g, g ≠ h → lineFollows s.ports[g] s.queues[g]) :
    LineLaw (s.putQueue h q) := by
  intro g
  by_cases hg : h = g
  · subst hg
    simp only [State.putQueue_queues, State.putQueue_ports, set_same]
    rfl
  · simp only [State.putQueue_queues, State.putQueue_ports, set_other _ _ _ _ hg]
    exact hline g (Ne.symm hg)

theorem change_lineLaw (change : Change i s u) (h : LineLaw s) : LineLaw u := by
  have hafter : ∀ (g : HostId) q e, lineFollows s.ports[g] q → lineFollows s.ports[g] (queueAfter s.ports[g] q e) :=
    fun g q e hq => lineFollows_queueAfter e hq
  have hother : ∀ (h' : HostId) (p : HostPort) (g : HostId), g ≠ h' →
      lineFollows (s.putPort h' p).ports[g] (s.putPort h' p).queues[g] := by
    intro h' p g hg
    rw [State.putPort_ports, set_other _ _ _ _ (Ne.symm hg)]
    exact h g
  cases change with
  | port h' change => exact lineLaw_putPort h change.enables
  | lossTaken h' => exact lineLaw_putPort h ⟨rfl, rfl⟩
  | control h' => exact lineLaw_putQueue h' _ (hother h' _)
  | portWasReset h' => exact lineLaw_putQueue h' _ (hother h' _)
  | read h' => exact lineLaw_putQueue h' _ fun g _ => h g
  | noticed h' => exact lineLaw_putQueue h' _ fun g _ => h g
  | posted c r e => exact lineLaw_putQueue e.host _ fun g _ => h g
  | joined c r h' => exact lineLaw_putQueue h' _ fun g _ => h g
  | closed c r => exact handOn_keeps_queues hafter h c _
  | published c r => exact postNotices_keeps hafter h c _ _
  | restarted => exact fun g => by simp [State.resetBlocks, State.reset, CompletionQueue.reset, HostPort.reset, lineLevel]
  | _ => exact h

/-! ### Acknowledgements awaited -/

/-- The notice law of one port. -/
def noticesCounted (p : HostPort) : Prop :=
  p.awaited = p.lossNotices + p.removals + cutsSent p + p.acksReturned ∧ p.awaited ≤ 255

theorem PortChange.noticesCounted {p p' : HostPort} (change : PortChange p p') (h : noticesCounted p) :
    noticesCounted p' := by
  obtain ⟨hcount, hbound⟩ := h
  cases change with
  | written word =>
    unfold HostPort.writeCommand HostPort.complete
    repeat' split
    all_goals exact ⟨hcount, hbound⟩
  | acknowledged returned =>
    refine ⟨?_, (Nat.sub_le _ _).trans hbound⟩
    show p.awaited - 1 = p.lossNotices + p.removals + cutsSent p + (p.acksReturned - 1)
    omega
  | removalTaken sent =>
    refine ⟨?_, hbound⟩
    show p.awaited = p.lossNotices + (p.removals - 1) + cutsSent p + (p.acksReturned + 1)
    omega
  | cutTaken w sent =>
    refine ⟨?_, hbound⟩
    have hcuts : cutsSent { p with cuts := p.cuts.set w (p.cuts[w] - 1) } + 1 = cutsSent p := by
      have all : ∀ w : UnitId, w = 0 ∨ w = 1 ∨ w = 2 ∨ w = 3 := by decide
      unfold cutsSent
      rcases all w with rfl | rfl | rfl | rfl <;> simp at sent ⊢ <;> omega
    show p.awaited = p.lossNotices + p.removals + cutsSent { p with cuts := p.cuts.set w (p.cuts[w] - 1) }
      + (p.acksReturned + 1)
    omega
  | _ => exact ⟨hcount, hbound⟩

theorem noticesCounted_resetRecord {p : HostPort} (h : noticesCounted p) : noticesCounted p.resetRecord := by
  obtain ⟨hcount, hbound⟩ := h
  unfold HostPort.resetRecord HostPort.sendNotices
  split
  · exact ⟨hcount, hbound⟩
  next few =>
    dsimp only at few
    simp only [noticesCounted, cutsSent, Vector.getElem_map] at hcount ⊢
    omega

theorem change_noticeLaw (change : Change i s u) (h : NoticeLaw s) : NoticeLaw u := by
  cases change with
  | port h' change => exact forall_set (P := fun _ p => noticesCounted p) (change.noticesCounted (h h')) h
  | lossTaken h' sent =>
    refine forall_set (P := fun _ p => noticesCounted p) ⟨?_, (h h').2⟩ h
    have hcount := (h h').1
    show s.ports[h'].awaited = (s.ports[h'].lossNotices - 1) + s.ports[h'].removals + cutsSent s.ports[h']
      + (s.ports[h'].acksReturned + 1)
    omega
  | control h' => exact forall_set (P := fun _ p => noticesCounted p) (h h') h
  | portWasReset h' => exact forall_set (P := fun _ p => noticesCounted p) (noticesCounted_resetRecord (h h')) h
  | restarted => exact fun g => by simp [State.resetBlocks, State.reset, HostPort.reset, cutsSent]
  | _ => exact h

/-! ### Framing -/

/-- A port without words and without a command for its owner is sound in its framing. -/
theorem framingSound_empty {p : HostPort} (framing : p.framing = .empty) (deferred : p.deferredResets = 0) :
    framingSound p := by
  refine ⟨?_, fun hd => absurd deferred hd⟩
  rw [wordsSound, framing]
  trivial

/-- With no command for its owner, no port reset waits. -/
theorem deferredResets_undecided {p : HostPort} (h : framingSound p) (undecided : awaitsDecision p = false) :
    p.deferredResets = 0 := by
  by_contra hd
  rw [h.2 hd] at undecided
  cases undecided

theorem framingSound_complete {p : HostPort} {words : List Word} (deferred : p.deferredResets = 0)
    (length : codeLength (commandCode (words.getD 0 0)) = some words.length) : framingSound (p.complete words) := by
  unfold HostPort.complete
  split
  · exact framingSound_empty rfl deferred
  next pass =>
    refine ⟨⟨length, pass, fun hstage => ?_⟩, fun hd => absurd deferred hd⟩
    by_contra hawaited
    exact hstage (if_neg hawaited)

/-- A command of a known code has a positive length. -/
theorem codeLength_pos {code length : Nat} (h : codeLength code = some length) : 1 ≤ length := by
  unfold codeLength at h
  split at h
  all_goals cases h
  all_goals decide

theorem framingSound_written {p : HostPort} (word : Word) (free : busHeld p = false) (h : framingSound p) :
    framingSound (p.writeCommand word) := by
  have hdeferred : p.deferredResets = 0 := by
    refine deferredResets_undecided h ?_
    unfold busHeld at free
    unfold awaitsDecision
    split at free <;> simp_all
  have hwords := h.1
  unfold HostPort.writeCommand
  split
  next hframing =>
    split
    · exact framingSound_empty hframing hdeferred
    next length hlength =>
      split
      next hone => exact framingSound_complete hdeferred (by simpa [hone] using hlength)
      next hmore =>
        have := codeLength_pos hlength
        refine ⟨⟨le_rfl, ?_, hlength⟩, fun hd => absurd hdeferred hd⟩
        simp only [List.length_singleton]
        omega
  next words expected hframing =>
    rw [wordsSound, hframing] at hwords
    obtain ⟨hpos, hless, hlength⟩ := hwords
    have hfirst : (words ++ [word]).getD 0 0 = words.getD 0 0 := by
      cases words with
      | nil => simp at hpos
      | cons first rest => rfl
    split
    next hlast => exact framingSound_complete hdeferred (by rw [hfirst, hlength, ← hlast]; simp)
    next hmore =>
      refine ⟨⟨by simp, ?_, by rw [hfirst]; exact hlength⟩, fun hd => absurd hdeferred hd⟩
      simp only [List.length_append, List.length_singleton]
      omega
  · exact h

/-- The framing law of a port in DELIVERING. -/
theorem framingSound_delivering {p : HostPort} {words : List Word} {stage : DeliveryStage}
    (framing : p.framing = .delivering words stage) :
    framingSound p ↔
      (codeLength (commandCode (words.getD 0 0)) = some words.length ∧ portCheck words = none
          ∧ (stage ≠ .held → p.awaited = 0))
        ∧ (p.deferredResets ≠ 0 → stage ≠ .held) := by
  cases stage <;> simp [framingSound, wordsSound, awaitsDecision, framing]

theorem framingSound_acknowledge {p : HostPort} (h : framingSound p) : framingSound p.acknowledge := by
  cases hframing : p.framing with
  | empty =>
    have hdeferred := deferredResets_undecided h (by rw [awaitsDecision, hframing])
    exact framingSound_empty (by simp [HostPort.acknowledge, hframing, handOver]) hdeferred
  | assembling words expected =>
    have hdeferred := deferredResets_undecided h (by rw [awaitsDecision, hframing])
    have hwords := h.1
    rw [wordsSound, hframing] at hwords
    refine ⟨?_, fun hd => absurd hdeferred hd⟩
    simpa [wordsSound, HostPort.acknowledge, hframing, handOver] using hwords
  | delivering words stage =>
    obtain ⟨⟨hlength, hpass, hstage⟩, hdeferred⟩ := (framingSound_delivering hframing).1 h
    by_cases hheld : stage = .held
    · subst hheld
      have hafter : p.acknowledge.framing = .delivering words (if p.awaited - 1 = 0 then .handed else .held) := by
        simp [HostPort.acknowledge, hframing, handOver]
      refine (framingSound_delivering hafter).2 ⟨⟨hlength, hpass, fun hs => ?_⟩, fun hd => absurd rfl (hdeferred hd)⟩
      by_contra hawaited
      exact hs (if_neg hawaited)
    · have hafter : p.acknowledge.framing = .delivering words stage := by
        simp only [HostPort.acknowledge, hframing, handOver]
        split
        next heq => cases heq; exact absurd rfl hheld
        · rfl
      refine (framingSound_delivering hafter).2 ⟨⟨hlength, hpass, fun _ => ?_⟩, fun _ => hheld⟩
      show p.awaited - 1 = 0
      rw [hstage hheld]

theorem PortChange.framingSound {p p' : HostPort} (change : PortChange p p') (h : framingSound p) :
    framingSound p' := by
  cases change with
  | written word free => exact framingSound_written word free h
  | decided code value handed =>
    have hwords := h.1
    rw [wordsSound, handed] at hwords
    exact ⟨⟨hwords.1, hwords.2.1, fun _ => hwords.2.2 (by simp)⟩, fun _ => rfl⟩
  | decisionTaken => exact framingSound_empty rfl rfl
  | resetDeferred awaits => exact ⟨h.1, fun _ => awaits⟩
  | acknowledged => exact framingSound_acknowledge h
  | _ => exact h

theorem framingSound_control {p : HostPort} (word : Word) (h : framingSound p) : framingSound (p.control word) := by
  unfold HostPort.control
  cases hframing : p.framing with
  | assembling words expected =>
    have hdeferred := deferredResets_undecided h (by rw [awaitsDecision, hframing])
    cases controlDiscard word with
    | true => exact framingSound_empty rfl hdeferred
    | false =>
      have hwords := h.1
      rw [wordsSound, hframing] at hwords
      exact ⟨hwords, fun hd => absurd hdeferred hd⟩
  | _ =>
    unfold Safety.framingSound wordsSound awaitsDecision at h ⊢
    rw [hframing] at h
    cases controlDiscard word <;> exact h

theorem change_framingLaw (change : Change i s u) (h : FramingLaw s) : FramingLaw u := by
  cases change with
  | port h' change => exact forall_set (P := fun _ p => framingSound p) (change.framingSound (h h')) h
  | lossTaken h' => exact forall_set (P := fun _ p => framingSound p) (h h') h
  | control h' => exact forall_set (P := fun _ p => framingSound p) (framingSound_control _ (h h')) h
  | portWasReset h' undecided =>
    refine forall_set (P := fun _ p => framingSound p) (framingSound_empty ?_ ?_) h
    · unfold HostPort.resetRecord HostPort.sendNotices
      split <;> rfl
    · rw [← deferredResets_undecided (h h') undecided]
      unfold HostPort.resetRecord HostPort.sendNotices
      split <;> rfl
  | restarted =>
    refine fun g => framingSound_empty ?_ ?_ <;> simp [State.resetBlocks, State.reset, HostPort.reset]
  | _ => exact h

/-- Settles O53: every change keeps each of the four laws. -/
theorem stepKeepsThePortAndCompletionQueueLaws : Obligations.StepKeepsThePortAndCompletionQueueLaws := by
  intro s t next
  exact ⟨fun h => step_keeps next change_creditLaw fun _ => h, fun h => step_keeps next change_lineLaw fun _ => h,
    fun h => step_keeps next change_noticeLaw fun _ => h, fun h => step_keeps next change_framingLaw fun _ => h⟩

end Sys2Proof.Machine
end

section
/-! Proofs for the laws of the Stride Table and the Pending Queue: how the lists of entries and the namings change, then
each law change by change, then the statement. -/

namespace Sys2Proof.Machine

open Sys2Proof.Safety

variable {i : Instr} {s u : State}

/-! ### The list of entries -/

/-- Taking out the first entry found leaves the others. -/
theorem eraseP_found_perm {α : Type} {p : α → Bool} {l : List α} {a : α} (found : l.find? p = some a) :
    (a :: l.eraseP p).Perm l := by
  induction l with
  | nil => cases found
  | cons x rest ih =>
    by_cases hx : p x = true
    · rw [List.find?_cons_of_pos hx] at found
      cases found
      rw [List.eraseP_cons_of_pos hx]
    · rw [List.find?_cons_of_neg hx] at found
      rw [List.eraseP_cons_of_neg hx]
      exact (List.Perm.swap _ _ _).trans ((ih found).cons x)

theorem insertContribution_perm (e : Contribution) (l : List Contribution) :
    (insertContribution e l).Perm (e :: l) := by
  obtain ⟨front, back, hl, hinsert, -, -⟩ := insertContribution_split e l
  rw [hinsert, hl]
  exact List.perm_middle

/-- In a queue of descending priority, an insertion has every entry of lower priority after it (R95). -/
theorem insertContribution_sorted {e : Contribution} {l : List Contribution}
    (sorted : l.Pairwise fun a b => b.priority ≤ a.priority) :
    ∃ front back, l = front ++ back ∧ insertContribution e l = front ++ e :: back
      ∧ (∀ x ∈ front, e.priority ≤ x.priority) ∧ ∀ x ∈ back, x.priority < e.priority := by
  obtain ⟨front, back, hl, hinsert, hfront, hback⟩ := insertContribution_split e l
  refine ⟨front, back, hl, hinsert, hfront, fun x hx => ?_⟩
  cases back with
  | nil => cases hx
  | cons y rest =>
    have hy := hback y rest rfl
    rw [hl] at sorted
    rcases List.mem_cons.mp hx with rfl | hx
    · exact hy
    · exact ((List.pairwise_cons.mp (List.pairwise_append.mp sorted).2.1).1 x hx).trans_lt hy

theorem filter_split_perm {α : Type} (p : α → Bool) (l : List α) :
    (l.filter p ++ l.filter fun x => !p x).Perm l := by
  simpa using List.filter_append_perm p l

theorem change_priorityLaw (change : Change i s u) (h : PriorityLaw s) : PriorityLaw u := by
  cases change with
  | posted c r e =>
    obtain ⟨front, back, hl, hinsert, hfront, hback⟩ := insertContribution_sorted (e := e) h
    show (insertContribution e s.contributions).Pairwise _
    unfold PriorityLaw at h
    rw [hl, List.pairwise_append] at h
    rw [hinsert, List.pairwise_append, List.pairwise_cons]
    obtain ⟨hf, hb, hfb⟩ := h
    refine ⟨hf, ⟨fun x hx => (hback x hx).le, hb⟩, fun x hx y hy => ?_⟩
    rcases List.mem_cons.mp hy with rfl | hy
    · exact hfront x hx
    · exact hfb x hx y hy
  | removed leaves => exact h.filter _
  | dispatched => exact h.sublist List.eraseP_sublist
  | restarted => exact List.Pairwise.nil
  | _ => exact h

/-! ### The counts of the queue -/

/-- The number of entries of a host. -/
def entriesOf (l : List Contribution) (g : HostId) : Nat :=
  l.countP fun e => decide (e.host = g)

theorem entriesOf_cons (e : Contribution) (l : List Contribution) (g : HostId) :
    entriesOf (e :: l) g = entriesOf l g + if e.host = g then 1 else 0 := by
  simp [entriesOf, List.countP_cons]

/-- The queue law, with the entries of each host counted by `entriesOf`. -/
theorem queueLaw_of {t : State} (length : t.contributions.length ≤ 32)
    (counts : ∀ g : HostId, t.hostCounts[g] = entriesOf t.contributions g ∧ t.hostCounts[g] ≤ 16) : QueueLaw t :=
  ⟨length, counts⟩

theorem queueLaw_posted {e : Contribution} (h : QueueLaw s) (length : s.contributions.length < 32)
    (quota : s.hostCounts[e.host] < 16) : QueueLaw (s.enqueue e) := by
  have hperm := insertContribution_perm e s.contributions
  refine queueLaw_of ?_ fun g => ?_
  · rw [State.enqueue_contributions, hperm.length_eq, List.length_cons]
    omega
  · obtain ⟨hcount, hbound⟩ := h.2 g
    rw [State.enqueue_contributions, entriesOf, hperm.countP_eq, ← entriesOf, entriesOf_cons, State.enqueue_hostCounts]
    by_cases hg : e.host = g
    · subst hg
      rw [set_same, if_pos rfl]
      exact ⟨congrArg (· + 1) hcount, quota⟩
    · rw [set_other _ _ _ _ hg, if_neg hg]
      exact ⟨hcount, hbound⟩

theorem queueLaw_removed (leaves : Contribution → Bool) (h : QueueLaw s) :
    QueueLaw (s.removeContributions leaves) := by
  obtain ⟨hleft, hcounts, -⟩ := removeContributions_left s leaves
  refine queueLaw_of ?_ fun g => ?_
  · rw [hleft]
    exact (List.length_filter_le _ _).trans h.1
  · obtain ⟨hcount, hbound⟩ := h.2 g
    have hsplit := (filter_split_perm leaves s.contributions).countP_eq fun e => decide (e.host = g)
    rw [List.countP_append, List.countP_filter (l := s.contributions) (q := leaves)] at hsplit
    rw [hcounts, hleft, entriesOf, hcount]
    simp only [Bool.and_comm (leaves _)]
    rw [hcount] at hbound
    omega

theorem queueLaw_dispatched {e : Contribution} {r : Round} (w : UnitId) (h : QueueLaw s)
    (first : s.contributions.find? (eligible s) = some e) : QueueLaw (s.dispatchTo e r w) := by
  have hperm := eraseP_found_perm first
  refine queueLaw_of ?_ fun g => ?_
  · exact List.eraseP_sublist.length_le.trans h.1
  · obtain ⟨hcount, hbound⟩ := h.2 g
    have hcons : entriesOf s.contributions g = entriesOf (e :: s.contributions.eraseP (eligible s)) g :=
      (hperm.countP_eq _).symm
    rw [entriesOf_cons] at hcons
    have hsame : s.hostCounts[g] = entriesOf s.contributions g := hcount
    show (countDeparture s.hostCounts e)[g] = entriesOf (s.contributions.eraseP (eligible s)) g
      ∧ (countDeparture s.hostCounts e)[g] ≤ 16
    unfold countDeparture
    by_cases hg : e.host = g
    · subst hg
      rw [set_same]
      simp only [if_true] at hcons
      omega
    · rw [set_other _ _ _ _ hg]
      simp only [hg, if_false] at hcons
      omega

theorem change_queueLaw (change : Change i s u) (h : QueueLaw s) : QueueLaw u := by
  cases change with
  | posted c r e _ _ _ _ _ _ _ length quota => exact queueLaw_posted (s := (s.reserve e.host).putRound c _) h length quota
  | removed leaves => exact queueLaw_removed leaves h
  | countCleared h' gone =>
    refine queueLaw_of h.1 (forall_set (P := fun g n => n = entriesOf s.contributions g ∧ n ≤ 16) ?_ h.2)
    exact ⟨(List.countP_eq_zero.2 fun e he => by simpa using gone e he).symm, Nat.zero_le _⟩
  | dispatched e r w first => exact queueLaw_dispatched w h first
  | restarted => exact queueLaw_of (Nat.zero_le _) fun g => by simp [State.resetBlocks, State.reset, entriesOf]
  | _ => exact h

/-! ### Namings -/

/-- The namings of entry `x` by the entries of a list. -/
def listNamings (l : List Contribution) (x : StrideId) : Nat :=
  (l.map fun e => e.refs.count x).sum

/-- The namings of entry `x` by the contributions that units hold. -/
def unitNamings (units : Vector WalkUnit 4) (x : StrideId) : Nat :=
  (unitOrder.map fun w => (unitRefs units[w]).count x).sum

theorem namingCount_eq (t : State) (x : StrideId) :
    namingCount t x = listNamings t.contributions x + unitNamings t.units x := rfl

theorem listNamings_perm {l l' : List Contribution} (h : l.Perm l') (x : StrideId) :
    listNamings l x = listNamings l' x :=
  (h.map _).sum_eq

theorem listNamings_cons (e : Contribution) (l : List Contribution) (x : StrideId) :
    listNamings (e :: l) x = e.refs.count x + listNamings l x := by
  simp [listNamings]

/-- Writing a unit exchanges its namings. -/
theorem unitNamings_set (units : Vector WalkUnit 4) (w : UnitId) (unit : WalkUnit) (x : StrideId) :
    unitNamings (units.set w unit) x + (unitRefs units[w]).count x = unitNamings units x + (unitRefs unit).count x := by
  have all : ∀ w : UnitId, w = 0 ∨ w = 1 ∨ w = 2 ∨ w = 3 := by decide
  unfold unitNamings unitOrder
  rcases all w with rfl | rfl | rfl | rfl <;> simp <;> omega

/-- A unit written with the same contribution names the same entries. -/
theorem unitNamings_same {units : Vector WalkUnit 4} {w : UnitId} {unit : WalkUnit}
    (refs : unitRefs unit = unitRefs units[w]) (x : StrideId) : unitNamings (units.set w unit) x = unitNamings units x := by
  have := unitNamings_set units w unit x
  rw [refs] at this
  omega

theorem strideLaw_posted {e : Contribution} (h : StrideLaw s) : StrideLaw (s.enqueue e) := by
  intro x
  rw [State.enqueue_strides, bindRefs_get, namingCount_eq, State.enqueue_contributions,
    listNamings_perm (insertContribution_perm e _), listNamings_cons]
  have hcount := h x
  rw [namingCount_eq] at hcount
  show s.strides[x].count + _ = _ + unitNamings s.units x
  omega

theorem strideLaw_removed (leaves : Contribution → Bool) (h : StrideLaw s) :
    StrideLaw (s.removeContributions leaves) := by
  intro x
  obtain ⟨hleft, -, hstrides⟩ := removeContributions_left s leaves
  have hcount := h x
  have hsplit := listNamings_perm (filter_split_perm leaves s.contributions) x
  rw [listNamings, List.map_append, List.sum_append, ← listNamings, ← listNamings] at hsplit
  rw [namingCount_eq] at hcount
  rw [hstrides, namingCount_eq, hleft]
  show s.strides[x].count - listNamings (s.contributions.filter leaves) x = _ + unitNamings s.units x
  omega

theorem strideLaw_dispatched {e : Contribution} {r : Round} {w : UnitId} (h : StrideLaw s)
    (first : s.contributions.find? (eligible s) = some e) (idle : s.units[w].mode = .idle) :
    StrideLaw (s.dispatchTo e r w) := by
  intro x
  have hcount := h x
  have hset := unitNamings_set s.units w (startWalk e r) x
  rw [show unitRefs s.units[w] = [] by rw [unitRefs, idle]] at hset
  rw [namingCount_eq, ← listNamings_perm (eraseP_found_perm first), listNamings_cons] at hcount
  show s.strides[x].count = listNamings (s.contributions.eraseP (eligible s)) x
    + unitNamings (s.units.set w (startWalk e r)) x
  have hrefs : unitRefs (startWalk e r) = e.refs := rfl
  rw [hrefs] at hset
  simp only [List.count_nil] at hset
  omega

theorem strideLaw_walkEnded {w : UnitId} {walk : Walk} (window : Vector (Option Place) 4) (kind : ReportKind)
    (h : StrideLaw s) (walking : s.units[w].mode = .walking walk) : StrideLaw (s.endWalk w walk window kind) := by
  intro x
  have hcount := h x
  let unit : WalkUnit :=
    { mode := if windowOutstanding window then .stopping else .idle, generator := s.units[w].generator
      window := window.map emptyAnswered, working := none, tallies := Tallies.zero }
  have hset := unitNamings_set s.units w unit x
  have hrefs : unitRefs unit = [] := by
    simp only [unitRefs, unit]
    cases windowOutstanding window <;> rfl
  rw [hrefs, show unitRefs s.units[w] = walk.contribution.refs by rw [unitRefs, walking], List.count_nil] at hset
  show (releaseRefs walk.contribution.refs s.strides)[x].count = listNamings s.contributions x
    + unitNamings (s.units.set w unit) x
  rw [releaseRefs_get]
  rw [namingCount_eq] at hcount
  show s.strides[x].count - _ = _
  omega

/-- Writing a unit that keeps its contribution keeps the stride law. -/
theorem strideLaw_putUnit {w : UnitId} {unit : WalkUnit} (h : StrideLaw s)
    (refs : unitRefs unit = unitRefs s.units[w]) : StrideLaw (s.putUnit w unit) := by
  intro x
  rw [namingCount_eq, State.putUnit_units, unitNamings_same refs]
  exact h x

theorem strideLaw_issueRead (h : StrideLaw s) (w : UnitId) (walk : Walk) (g : Generator) (k : PlaceId) :
    StrideLaw (s.issueRead w walk g k) := by
  intro x
  have hunits := unitNamings_same (units := s.units) (w := w) (unit := (s.issueRead w walk g k).units[w]) ?_ x
  · have hcount := h x
    rw [namingCount_eq] at hcount ⊢
    show s.strides[x].count = listNamings s.contributions x + unitNamings (s.units.set w _) x
    rw [hcount, ← hunits]
    simp [State.issueRead]
  · simp [State.issueRead, unitRefs]

theorem change_strideLaw (change : Change i s u) (h : StrideLaw s) : StrideLaw u := by
  cases change with
  | posted c r e => exact strideLaw_posted (s := (s.reserve e.host).putRound c _) h
  | removed leaves => exact strideLaw_removed leaves h
  | strideSet e value writer =>
    exact forall_set (P := fun (x : StrideId) (entry : StrideEntry) => entry.count = namingCount s x) (h e) h
  | dispatched e r w first idle => exact strideLaw_dispatched h first idle
  | walkEnded w walk walking => exact strideLaw_walkEnded (s := { s with answers := _ }) _ _ h walking
  | walkWentOn w walk => exact strideLaw_putUnit (s := { s with answers := _ }) h rfl
  | placeDrained w k stopping =>
    refine strideLaw_putUnit (s := { s with answers := _ }) h ?_
    show unitRefs _ = unitRefs s.units[w]
    simp only [unitRefs, stopping]
    cases windowEmpty (s.units[w].window.set k none) <;> rfl
  | readIssued w walk g k => exact strideLaw_issueRead h w walk g k
  | restarted =>
    intro x
    simp [State.resetBlocks, State.reset, StrideEntry.reset, namingCount, unitOrder, unitRefs, WalkUnit.reset]
  | _ => exact h

theorem change_strideRangeLaw (change : Change i s u) (h : StrideRangeLaw s) : StrideRangeLaw u := by
  cases change with
  | posted c r e =>
    intro x
    have := h x
    rw [State.enqueue_strides, bindRefs_get]
    exact this
  | removed leaves =>
    intro x
    rw [(removeContributions_left s leaves).2.2]
    exact h x
  | strideSet e value writer free range =>
    exact forall_set (P := fun (_ : StrideId) (entry : StrideEntry) => -8388608 ≤ entry.value ∧ entry.value ≤ 8388607) range h
  | walkEnded w walk walking =>
    intro x
    show -8388608 ≤ (releaseRefs walk.contribution.refs s.strides)[x].value
      ∧ (releaseRefs walk.contribution.refs s.strides)[x].value ≤ 8388607
    rw [releaseRefs_get]
    exact h x
  | restarted => exact fun x => by simp [State.resetBlocks, State.reset, StrideEntry.reset]
  | _ => exact h

/-- Settles O54: every change keeps the first four laws, and completing the event leaves no dispatch. -/
theorem stepKeepsTheStrideAndPendingQueueLaws : Obligations.StepKeepsTheStrideAndPendingQueueLaws := by
  intro s t next
  exact ⟨fun h => step_keeps next change_strideLaw fun _ => h, fun h => step_keeps next change_strideRangeLaw fun _ => h,
    fun h => step_keeps next change_queueLaw fun _ => h, fun h => step_keeps next change_priorityLaw fun _ => h,
    step_dispatchLaw next⟩

end Sys2Proof.Machine
end

section
/-! Proofs for the laws of the windows, the memory port, the Timebase and the arbiter: what treating elements does to a
window, what a change does to one unit and to one slot, then each law change by change. -/

namespace Sys2Proof.Machine

open Sys2Proof.Safety

variable {i : Instr} {s u : State}

/-! ### The head of a window -/

/-- The earlier of two places is the best so far or the place compared with it. -/
theorem earlierPlace_some {window : Vector (Option Place) 4} {best : Option (PlaceId × Place)} {j k : PlaceId} {p : Place}
    (h : earlierPlace window best j = some (k, p)) : best = some (k, p) ∨ window[k] = some p := by
  unfold earlierPlace at h
  split at h
  · exact .inl h
  next hq =>
    cases h
    exact .inr hq
  next hq =>
    split at h
    · cases h
      exact .inr hq
    · exact .inl h

/-- The head of a window is a place in use. -/
theorem headPlace_inUse {window : Vector (Option Place) 4} {k : PlaceId} {p : Place}
    (h : headPlace window = some (k, p)) : window[k] = some p := by
  have hfold : ∀ (l : List PlaceId) (best : Option (PlaceId × Place)),
      l.foldl (earlierPlace window) best = some (k, p) → best = some (k, p) ∨ window[k] = some p := by
    intro l
    induction l with
    | nil => exact fun _ hbest => .inl hbest
    | cons j rest ih => exact fun _ hlast => (ih _ hlast).elim earlierPlace_some .inr
  exact (hfold placeOrder none h).resolve_left (by simp)

/-- The best place of a window with one more place in use: the best without it, or the new one, which none precedes. -/
def leadsOr (k : PlaceId) (new : Place) (after before : Option (PlaceId × Place)) : Prop :=
  after = before ∨ after = some (k, new) ∧ ∀ j q, before = some (j, q) → new.index ≤ q.index

theorem leadsOr_earlierPlace {window : Vector (Option Place) 4} {k : PlaceId} {new : Place} (empty : window[k] = none)
    {after before : Option (PlaceId × Place)} (h : leadsOr k new after before) (j : PlaceId) :
    leadsOr k new (earlierPlace (window.set k (some new)) after j) (earlierPlace window before j) := by
  by_cases hj : k = j
  · subst hj
    simp only [earlierPlace, set_same, empty]
    rcases h with rfl | ⟨rfl, hleast⟩
    · cases after with
      | none => exact .inr ⟨rfl, by simp⟩
      | some best =>
        dsimp only
        split
        next hless =>
          refine .inr ⟨rfl, ?_⟩
          rintro i q hq
          cases hq
          exact hless.le
        · exact .inl rfl
    · simp only [lt_irrefl, if_false]
      exact .inr ⟨rfl, hleast⟩
  · simp only [earlierPlace, set_other _ _ _ _ hj]
    rcases h with rfl | ⟨rfl, hleast⟩
    · exact .inl rfl
    · cases hplace : window[j] with
      | none => exact .inr ⟨rfl, hleast⟩
      | some p =>
        cases before with
        | none =>
          dsimp only
          split
          · exact .inl rfl
          next hmore =>
            refine .inr ⟨rfl, ?_⟩
            rintro i q hq
            cases hq
            omega
        | some best =>
          have hbest := hleast best.1 best.2 rfl
          dsimp only
          by_cases hless : p.index < new.index
          · rw [if_pos hless, if_pos (by omega)]
            exact .inl rfl
          · rw [if_neg hless]
            refine .inr ⟨rfl, ?_⟩
            intro i q hq
            split at hq
            · cases hq
              omega
            · cases hq
              exact hbest

/-- Filling an empty place leaves the head, or makes the new element the head. -/
theorem headPlace_set {window : Vector (Option Place) 4} {k : PlaceId} {new : Place} (empty : window[k] = none) :
    headPlace (window.set k (some new)) = headPlace window ∨ headPlace (window.set k (some new)) = some (k, new) := by
  have hfold : ∀ (l : List PlaceId) (after before : Option (PlaceId × Place)), leadsOr k new after before →
      leadsOr k new (l.foldl (earlierPlace (window.set k (some new))) after) (l.foldl (earlierPlace window) before) := by
    intro l
    induction l with
    | nil => exact fun _ _ h => h
    | cons j rest ih => exact fun _ _ h => ih _ _ (leadsOr_earlierPlace empty h j)
  exact (hfold placeOrder none none (.inl rfl)).imp_right And.left

/-! ### Treating elements -/

/-- The window that a run of treatments leaves. -/
def TreatEnd.window : TreatEnd → Vector (Option Place) 4
  | .goesOn _ _ window => window
  | .faulted _ _ _ window => window

/-- Treatments empty answered places and leave the others. -/
theorem treatElements_place (walk : Walk) (fuel : Nat) (working : Option Int) (tallies : Tallies)
    (window : Vector (Option Place) 4) (j : PlaceId) :
    (treatElements walk fuel working tallies window).window[j] = window[j]
      ∨ ((treatElements walk fuel working tallies window).window[j] = none ∧ placeOutstanding window[j] = false) := by
  induction fuel generalizing working tallies window with
  | zero => exact .inl rfl
  | succ fuel ih =>
    cases head : headPlace window with
    | none =>
      simp only [treatElements, head]
      exact .inl rfl
    | some best =>
      obtain ⟨k, p⟩ := best
      cases answered : p.answer with
      | none =>
        simp only [treatElements, head, answered]
        exact .inl rfl
      | some a =>
        have hk : placeOutstanding window[k] = false := by
          simp [headPlace_inUse head, placeOutstanding, answered]
        have hemptied : (window.set k none)[j] = window[j]
            ∨ (window.set k none)[j] = none ∧ placeOutstanding window[j] = false := by
          by_cases hj : k = j
          · subst hj
            exact .inr ⟨set_same _ _ _, hk⟩
          · exact .inl (set_other _ _ _ _ hj)
        cases treated : treatAnswer walk.settings walk.contribution.descriptor.format walk.contribution.prescale working
            tallies p.address p.size a with
        | raised kind =>
          simp only [treatElements, head, answered, treated]
          exact hemptied
        | recorded working' tallies' =>
          simp only [treatElements, head, answered, treated]
          rcases ih working' tallies' (window.set k none) with hsame | ⟨hnone, hout⟩
          · simpa only [hsame] using hemptied
          · rcases hemptied with heq | ⟨-, hfalse⟩
            · exact .inr ⟨hnone, heq ▸ hout⟩
            · exact .inr ⟨hnone, hfalse⟩

/-- Treatments change no place's waiting for an answer. -/
theorem treatElements_outstanding (walk : Walk) (fuel : Nat) (working : Option Int) (tallies : Tallies)
    (window : Vector (Option Place) 4) (j : PlaceId) :
    placeOutstanding (treatElements walk fuel working tallies window).window[j] = placeOutstanding window[j] := by
  rcases treatElements_place walk fuel working tallies window j with h | ⟨h, hout⟩
  · rw [h]
  · rw [h, hout]
    rfl

/-- The number of places in use. -/
def placesUsed (window : Vector (Option Place) 4) : Nat :=
  placeOrder.countP fun k => window[k].isSome

theorem placesUsed_set_none {window : Vector (Option Place) 4} {k : PlaceId} {p : Place} (inUse : window[k] = some p) :
    placesUsed (window.set k none) + 1 = placesUsed window := by
  have all : ∀ k : PlaceId, k = 0 ∨ k = 1 ∨ k = 2 ∨ k = 3 := by decide
  unfold placesUsed placeOrder
  rcases all k with rfl | rfl | rfl | rfl <;> simp [List.countP_cons] at inUse ⊢ <;> simp [inUse] <;> omega

/-- When every place in use may be treated, a walk that goes on has a head that still waits for its answer (R105). -/
theorem treatElements_goesOn {walk : Walk} {fuel : Nat} {working working' : Option Int} {tallies tallies' : Tallies}
    {window window' : Vector (Option Place) 4} (enough : placesUsed window ≤ fuel)
    (treated : treatElements walk fuel working tallies window = .goesOn working' tallies' window') (k : PlaceId)
    (p : Place) (head : headPlace window' = some (k, p)) : p.answer = none := by
  induction fuel generalizing working tallies window with
  | zero =>
    cases treated
    have := placesUsed_set_none (headPlace_inUse head)
    omega
  | succ fuel ih =>
    unfold treatElements at treated
    split at treated
    next hempty =>
      cases treated
      rw [hempty] at head
      cases head
    next j q hhead =>
      split at treated
      next waits =>
        cases treated
        rw [hhead] at head
        cases head
        exact waits
      next a _ =>
        split at treated
        · cases treated
        · have := placesUsed_set_none (headPlace_inUse hhead)
          exact ih (by omega) treated

theorem placesUsed_le (window : Vector (Option Place) 4) : placesUsed window ≤ 4 :=
  List.countP_le_length

/-! ### Units -/

theorem emptyPlace_empty {window : Vector (Option Place) 4} {k : PlaceId} (h : emptyPlace window = some k) :
    window[k] = none := by
  simpa using List.find?_some h

/-- A ready read is that of a unit in WALKING with a generator not exhausted and an empty place. -/
theorem readReady_spec {unit : WalkUnit} {walk : Walk} {g : Generator} {k : PlaceId}
    (h : readReady unit = some (walk, g, k)) :
    unit.mode = .walking walk ∧ unit.generator = some g ∧ unit.window[k] = none := by
  unfold readReady at h
  split at h
  next hmode hgenerator hplace =>
    split at h
    · cases h
    · cases h
      exact ⟨hmode, hgenerator, emptyPlace_empty hplace⟩
  · cases h

/-- The unit that a walk's end leaves. -/
def endedUnit (unit : WalkUnit) (window : Vector (Option Place) 4) : WalkUnit :=
  { mode := if windowOutstanding window then .stopping else .idle
    generator := unit.generator
    window := window.map emptyAnswered
    working := none
    tallies := Tallies.zero }

/-- The unit that has issued its ready read. -/
def issuedUnit (unit : WalkUnit) (strides : Vector StrideEntry 16) (walk : Walk) (g : Generator) (k : PlaceId) :
    WalkUnit :=
  { unit with
    generator := some (advanceGenerator strides walk.contribution.descriptor g)
    window := unit.window.set k
      (some
        { index := generatorIndex walk.contribution.descriptor g, address := g.address
          size := elementSize walk.contribution.descriptor.format, answer := none }) }

/-- The unit in STOPPING that has taken the answer of a place. -/
def drainedUnit (unit : WalkUnit) (k : PlaceId) : WalkUnit :=
  { unit with
    mode := if windowEmpty (unit.window.set k none) then .idle else .stopping
    window := unit.window.set k none }

theorem endWalk_units (s : State) (w : UnitId) (walk : Walk) (window : Vector (Option Place) 4) (kind : ReportKind) :
    (s.endWalk w walk window kind).units = s.units.set w (endedUnit s.units[w] window) := rfl

theorem issueRead_units (s : State) (w : UnitId) (walk : Walk) (g : Generator) (k : PlaceId) :
    (s.issueRead w walk g k).units = s.units.set w (issuedUnit s.units[w] s.strides walk g k) := rfl

theorem drainPlace_units (s : State) (w : UnitId) (k : PlaceId) :
    (s.drainPlace w k).units = s.units.set w (drainedUnit s.units[w] k) := rfl

theorem windowSound_endedUnit (unit : WalkUnit) (window : Vector (Option Place) 4) :
    windowSound (endedUnit unit window) := by
  have hplace : ∀ k : PlaceId, (endedUnit unit window).window[k] = if placeOutstanding window[k] then window[k] else none :=
    fun k => by simp [endedUnit, emptyAnswered_eq]
  by_cases hout : windowOutstanding window = true
  · have hmode : (endedUnit unit window).mode = .stopping := if_pos hout
    obtain ⟨k, hk⟩ := (windowOutstanding_iff window).1 hout
    unfold windowSound
    simp only [hmode, hplace]
    refine ⟨⟨k, fun hnone => ?_⟩, fun j hj => ?_⟩
    · rw [if_pos hk] at hnone
      rw [hnone] at hk
      cases hk
    · split at hj
      next hj' => rw [if_pos hj', hj']
      · exact absurd rfl hj
  · have hmode : (endedUnit unit window).mode = .idle := if_neg hout
    unfold windowSound
    simp only [hmode, hplace]
    exact fun k => if_neg fun hk => hout ((windowOutstanding_iff window).2 ⟨k, hk⟩)

theorem windowSound_issuedUnit {unit : WalkUnit} {walk : Walk} {g : Generator} {k : PlaceId}
    (strides : Vector StrideEntry 16) (ready : readReady unit = some (walk, g, k)) (h : windowSound unit) :
    windowSound (issuedUnit unit strides walk g k) := by
  obtain ⟨hmode, -, hempty⟩ := readReady_spec ready
  have hmode' : (issuedUnit unit strides walk g k).mode = .walking walk := hmode
  unfold windowSound at h ⊢
  rw [hmode] at h
  rw [hmode']
  intro j p head
  rcases headPlace_set hempty with hsame | hnew
  · exact h j p (hsame ▸ head)
  · cases hnew.symm.trans head
    rfl

theorem windowSound_drainedUnit {unit : WalkUnit} {k : PlaceId} (stopping : unit.mode = .stopping)
    (h : windowSound unit) : windowSound (drainedUnit unit k) := by
  unfold windowSound at h
  rw [stopping] at h
  by_cases hempty : windowEmpty (unit.window.set k none) = true
  · have hmode : (drainedUnit unit k).mode = .idle := if_pos hempty
    unfold windowSound
    rw [hmode]
    exact (windowEmpty_iff _).1 hempty
  · have hmode : (drainedUnit unit k).mode = .stopping := if_neg hempty
    unfold windowSound
    rw [hmode]
    rw [windowEmpty_iff] at hempty
    refine ⟨not_forall.1 hempty, fun j hj => ?_⟩
    have hother : k ≠ j := by
      rintro rfl
      exact hj (set_same _ _ _)
    have hsame : (drainedUnit unit k).window[j] = unit.window[j] := set_other _ _ _ _ hother
    rw [hsame] at hj ⊢
    exact h.2 j hj

theorem change_windowLaw (change : Change i s u) (h : WindowLaw s) : WindowLaw u := by
  cases change with
  | dispatched e r w =>
    refine forall_set (P := fun (_ : UnitId) (unit : WalkUnit) => windowSound unit) (fun k p head => ?_) h
    rw [startWalk, headPlace_none (by simp)] at head
    cases head
  | walkEnded w walk =>
    exact forall_set (P := fun (_ : UnitId) (unit : WalkUnit) => windowSound unit) (windowSound_endedUnit _ _) h
  | walkWentOn w walk walking answer inUse treated =>
    refine forall_set (P := fun (_ : UnitId) (unit : WalkUnit) => windowSound unit) ?_ h
    unfold windowSound
    rw [walking]
    exact treatElements_goesOn (placesUsed_le _) treated
  | placeDrained w k stopping =>
    exact forall_set (P := fun (_ : UnitId) (unit : WalkUnit) => windowSound unit)
      (windowSound_drainedUnit stopping (h w)) h
  | readIssued w walk g k ready =>
    exact forall_set (P := fun (_ : UnitId) (unit : WalkUnit) => windowSound unit)
      (windowSound_issuedUnit s.strides ready (h w)) h
  | restarted => exact fun w => by simp [State.resetBlocks, State.reset, WalkUnit.reset, windowSound]
  | _ => exact h

/-! ### Slots and the Timebase -/

theorem change_slotLaw (change : Change i s u) (h : SlotLaw s) : SlotLaw u := by
  have hput : ∀ (k : SlotId) (slot : TagSlot),
      (if slot.outstanding = true then 1 ≤ slot.timer ∧ slot.timer ≤ 200 else slot.timer = 0) →
        ∀ j : SlotId, if (s.slots.set k slot)[j].outstanding = true then
          1 ≤ (s.slots.set k slot)[j].timer ∧ (s.slots.set k slot)[j].timer ≤ 200 else (s.slots.set k slot)[j].timer = 0 :=
    fun k slot hslot => forall_set (P := fun (_ : SlotId) (slot : TagSlot) =>
      if slot.outstanding = true then 1 ≤ slot.timer ∧ slot.timer ≤ 200 else slot.timer = 0) hslot h
  cases change with
  | readIssued w walk g k => exact hput _ _ (by simp)
  | writeIssued => exact hput _ _ (by simp)
  | slotAnswered k => exact hput _ _ (by simp)
  | slotCounted k outstanding left =>
    have hk := h k
    rw [if_pos outstanding] at hk
    refine hput _ _ ?_
    rw [if_pos outstanding]
    dsimp only
    omega
  | restarted => exact fun k => by simp [State.resetBlocks, State.reset, TagSlot.reset]
  | _ => exact h

theorem selectedPeriods_range (straps : BitVec 7) : 20 ≤ selectedPeriods straps ∧ selectedPeriods straps ≤ 100 := by
  unfold selectedPeriods
  split
  · decide
  · split
    · decide
    · omega

theorem change_timebaseLaw (change : Change i s u) (h : TimebaseLaw s) : TimebaseLaw u := by
  obtain ⟨hcount, hlow, hhigh, hreset⟩ := h
  cases change with
  | timePassed count deadlineTicks responseTicks below =>
    rcases below with rfl | ⟨running, below⟩
    · exact ⟨by show 0 < s.periods; omega, hlow, hhigh, fun _ => rfl⟩
    · exact ⟨below, hlow, hhigh, fun asserted => absurd asserted (by simp [running])⟩
  | released straps =>
    obtain ⟨hlow', hhigh'⟩ := selectedPeriods_range straps
    exact ⟨by show 0 < selectedPeriods straps; omega, hlow', hhigh', fun asserted => by cases asserted⟩
  | restarted row epoch deviceReset periods selected =>
    have hperiods : 20 ≤ periods ∧ periods ≤ 100 := by
      rcases selected with rfl | rfl
      · exact ⟨hlow, hhigh⟩
      · decide
    exact ⟨by show 0 < periods; omega, hperiods.1, hperiods.2, fun _ => rfl⟩
  | _ => exact ⟨hcount, hlow, hhigh, hreset⟩

/-! ### Answers -/

theorem placeSlot_inj {w v : UnitId} {k j : PlaceId} (h : placeSlot w k = placeSlot v j) : w = v ∧ k = j := by
  have := congrArg Fin.val h
  simp only [placeSlot] at this
  constructor <;> ext <;> omega

theorem placeSlot_ne_publisherSlot (w : UnitId) (k : PlaceId) : placeSlot w k ≠ publisherSlot := by
  intro h
  have := congrArg Fin.val h
  simp only [placeSlot, publisherSlot] at this
  omega

/-- What waits on a slot matches what will be answered on it: `answerDue` for the slot's own values. -/
def answerMatches (slot : TagSlot) (answer : Option Answer) (waits : Bool) : Prop :=
  (waits = true ↔ slot.outstanding = true ∨ answer ≠ none) ∧ (slot.outstanding = true → answer = none)

theorem answerDue_iff (s : State) (k : SlotId) (waits : Bool) :
    answerDue s k waits ↔ answerMatches s.slots[k] s.answers[k] waits := Iff.rfl

/-- Once the answer on a slot has been taken, nothing is due on it. -/
theorem answerMatches_taken {slot : TagSlot} {a : Answer} {waits : Bool} (h : answerMatches slot (some a) waits) :
    answerMatches slot none false := by
  have hfree : slot.outstanding = false := by
    by_contra hout
    cases h.2 (by simpa using hout)
  simp [answerMatches, hfree]

/-- A slot with no request and no answer takes a request. -/
theorem answerMatches_issued {slot slot' : TagSlot} {answer : Option Answer} (h : answerMatches slot answer false)
    (outstanding : slot'.outstanding = true) : answerMatches slot' answer true := by
  have hnone : answer = none := by
    by_contra hanswer
    cases h.1.2 (.inr hanswer)
  simp [answerMatches, outstanding, hnone]

theorem answerMatches_answered {slot slot' : TagSlot} {waits : Bool} (h : answerMatches slot none waits)
    (outstanding : slot.outstanding = true) (freed : slot'.outstanding = false) (a : Answer) :
    answerMatches slot' (some a) waits := by
  simp only [answerMatches, freed] at h ⊢
  simpa [outstanding] using h

/-- The places of a unit wait for the answers that will come on the unit's slots. -/
def unitAnswers (slots : Vector TagSlot 17) (answers : Vector (Option Answer) 17) (w : UnitId) (unit : WalkUnit) :
    Prop :=
  ∀ k : PlaceId, answerMatches slots[placeSlot w k] answers[placeSlot w k] (placeOutstanding unit.window[k])

theorem answerLaw_iff (s : State) :
    AnswerLaw s ↔ (∀ w : UnitId, unitAnswers s.slots s.answers w s.units[w])
      ∧ answerMatches s.slots[publisherSlot] s.answers[publisherSlot] (publisherWaits s) := Iff.rfl

/-- A unit whose places wait as before may be exchanged. -/
theorem answerLaw_putUnit {w : UnitId} {unit : WalkUnit} (h : AnswerLaw s)
    (same : ∀ k : PlaceId, placeOutstanding unit.window[k] = placeOutstanding s.units[w].window[k]) :
    AnswerLaw (s.putUnit w unit) := by
  refine ⟨forall_set (P := fun (v : UnitId) (unit : WalkUnit) => unitAnswers s.slots s.answers v unit) ?_ h.1, h.2⟩
  intro k
  rw [same]
  exact h.1 w k

/-- A unit takes the answer of a place: the place no longer waits, and every other place waits as before. -/
theorem answerLaw_answerTaken {w : UnitId} {k : PlaceId} {a : Answer} {unit : WalkUnit} (h : AnswerLaw s)
    (answer : s.answers[placeSlot w k] = some a) (taken : placeOutstanding unit.window[k] = false)
    (same : ∀ j : PlaceId, j ≠ k → placeOutstanding unit.window[j] = placeOutstanding s.units[w].window[j]) :
    AnswerLaw { s with answers := s.answers.set (placeSlot w k) none, units := s.units.set w unit } := by
  refine ⟨fun v => ?_, ?_⟩
  · by_cases hv : w = v
    · subst hv
      intro j
      rw [answerDue_iff, set_same]
      by_cases hj : j = k
      · subst hj
        rw [set_same, taken]
        have hmatch := h.1 w j
        rw [answerDue_iff, answer] at hmatch
        exact answerMatches_taken hmatch
      · rw [set_other _ _ _ _ fun heq => hj (placeSlot_inj heq).2.symm, same j hj]
        exact h.1 w j
    · intro j
      rw [answerDue_iff, set_other _ _ _ _ hv, set_other _ _ _ _ fun heq => hv (placeSlot_inj heq).1]
      exact h.1 v j
  · rw [answerDue_iff, set_other _ _ _ _ (placeSlot_ne_publisherSlot w k)]
    exact h.2

/-- The Publisher takes its answer and waits for none. -/
theorem answerLaw_publisherTakes {record : Option PublisherRecord} {t : State} (h : AnswerLaw s)
    (answer : s.answers[publisherSlot] ≠ none) (noWait : publisherWaits t = false)
    (frame : t = { s with
      answers := s.answers.set publisherSlot none, publisher := record, publicationQueue := t.publicationQueue
      publicationReports := t.publicationReports }) : AnswerLaw t := by
  obtain ⟨a, ha⟩ := Option.ne_none_iff_exists'.1 answer
  have hpublisher := h.2
  rw [answerDue_iff, ha] at hpublisher
  rw [answerLaw_iff, noWait, frame]
  refine ⟨fun w k => ?_, ?_⟩
  · rw [set_other _ _ _ _ (placeSlot_ne_publisherSlot w k).symm]
    exact h.1 w k
  · rw [set_same]
    exact answerMatches_taken hpublisher

/-- One slot of the tag table changes, with the answer on it, in a way that keeps the match on that slot. -/
theorem answerLaw_slot {t : State} (k : SlotId) (h : AnswerLaw s)
    (match' : ∀ waits, answerMatches s.slots[k] s.answers[k] waits → answerMatches t.slots[k] t.answers[k] waits)
    (others : ∀ j : SlotId, j ≠ k → t.slots[j] = s.slots[j] ∧ t.answers[j] = s.answers[j]) (units : t.units = s.units)
    (publisher : t.publisher = s.publisher) : AnswerLaw t := by
  have hslot : ∀ (j : SlotId) waits, answerDue s j waits → answerDue t j waits := by
    intro j waits hj
    by_cases hjk : j = k
    · subst hjk
      exact match' waits hj
    · rw [answerDue_iff, (others j hjk).1, (others j hjk).2]
      exact hj
  refine ⟨fun w j => ?_, ?_⟩
  · rw [units]
    exact hslot _ _ (h.1 w j)
  · rw [publisherWaits, publisher]
    exact hslot _ _ h.2

/-- The Publisher that takes the head of its queue, or does not, waits only if it did. -/
theorem publisherWaits_takeHead (s : State) : publisherWaits s.takeHead = publisherWaits s := by
  unfold State.takeHead
  split
  next c rest idle queued =>
    simp only [publisherWaits, idle, composeRecord]
    cases s.cells[c].round with
    | none => rfl
    | some r =>
      dsimp only
      cases r.destination <;> rfl
  · rfl

theorem publisherWaits_handOn (s : State) (c : CellId) (r : Round) :
    publisherWaits (s.handOn c r) = publisherWaits s := by
  unfold State.handOn
  split
  · exact publisherWaits_takeHead _
  · rw [finishRound_eq]
    rfl

theorem answerLaw_walkEnded {w : UnitId} {walk : Walk} {answers : Vector (Option Answer) 17}
    {window : Vector (Option Place) 4} {kind : ReportKind} (h : AnswerLaw s)
    (ending : WalkEnding s w walk answers window kind) :
    AnswerLaw (State.endWalk { s with answers := answers } w walk window kind) := by
  have hplace : ∀ k : PlaceId, placeOutstanding (endedUnit s.units[w] window).window[k] = placeOutstanding window[k] := by
    intro k
    simp only [endedUnit, Fin.getElem_fin, Vector.getElem_map, emptyAnswered_eq]
    split
    · rfl
    next hnot => rw [Bool.not_eq_true] at hnot; rw [hnot]; rfl
  have htaken : ∀ {k : PlaceId} {a : Answer} {place : Place} {treatEnd : TreatEnd},
      s.answers[placeSlot w k] = some a →
      treatElements walk 4 s.units[w].working s.units[w].tallies
          (s.units[w].window.set k (some { place with answer := some a })) = treatEnd →
      window = treatEnd.window →
      AnswerLaw (State.endWalk { s with answers := s.answers.set (placeSlot w k) none } w walk window kind) := by
    rintro k a place _ answer rfl rfl
    refine answerLaw_answerTaken (unit := endedUnit s.units[w] _) h answer ?_ fun j hj => ?_
    · rw [hplace, treatElements_outstanding, set_same]
      rfl
    · rw [hplace, treatElements_outstanding, set_other _ _ _ _ (Ne.symm hj)]
  cases ending with
  | cut => exact answerLaw_putUnit h hplace
  | faulted answer inUse treated => exact htaken answer treated rfl
  | done answer inUse treated => exact htaken answer treated rfl

theorem answerLaw_issueRead {w : UnitId} {walk : Walk} {g : Generator} {k : PlaceId} (h : AnswerLaw s)
    (ready : readReady s.units[w] = some (walk, g, k)) : AnswerLaw (s.issueRead w walk g k) := by
  have hplace := h.1 w k
  rw [(readReady_spec ready).2.2] at hplace
  refine ⟨fun v j => ?_, ?_⟩
  · rw [answerDue_iff, issueRead_units]
    show answerMatches (s.slots.set (placeSlot w k) _)[placeSlot v j] s.answers[placeSlot v j] _
    by_cases hv : w = v
    · subst hv
      rw [set_same]
      by_cases hj : k = j
      · subst hj
        rw [set_same, show placeOutstanding (issuedUnit s.units[w] s.strides walk g k).window[k] = true by
          simp [issuedUnit, placeOutstanding]]
        exact answerMatches_issued hplace rfl
      · rw [set_other _ _ _ _ fun heq => hj (placeSlot_inj heq).2,
          show (issuedUnit s.units[w] s.strides walk g k).window[j] = s.units[w].window[j] from set_other _ _ _ _ hj]
        exact h.1 w j
    · rw [set_other _ _ _ _ hv, set_other _ _ _ _ fun heq => hv (placeSlot_inj heq).1]
      exact h.1 v j
  · rw [answerDue_iff]
    show answerMatches (s.slots.set (placeSlot w k) _)[publisherSlot] _ _
    rw [set_other _ _ _ _ (placeSlot_ne_publisherSlot w k)]
    exact h.2

theorem answerLaw_issueWrite {record : PublisherRecord} (h : AnswerLaw s) (current : s.publisher = some record)
    (offered : record.waiting = false) : AnswerLaw (s.issueWrite record) := by
  have hpublisher := h.2
  rw [publisherWaits, current] at hpublisher
  dsimp only at hpublisher
  rw [offered] at hpublisher
  refine ⟨fun w k => ?_, ?_⟩
  · rw [answerDue_iff]
    show answerMatches (s.slots.set publisherSlot _)[placeSlot w k] _ _
    rw [set_other _ _ _ _ (placeSlot_ne_publisherSlot w k).symm]
    exact h.1 w k
  · rw [answerDue_iff]
    show answerMatches (s.slots.set publisherSlot _)[publisherSlot] s.answers[publisherSlot] true
    rw [set_same]
    exact answerMatches_issued hpublisher rfl

theorem answerLaw_answerSlot {k : SlotId} (h : AnswerLaw s) (a : Answer) (outstanding : s.slots[k].outstanding = true) :
    AnswerLaw (s.answerSlot k a) := by
  refine answerLaw_slot k h (fun waits hk => ?_)
    (fun j hj => ⟨set_other _ _ _ _ (Ne.symm hj), set_other _ _ _ _ (Ne.symm hj)⟩) rfl rfl
  show answerMatches (s.slots.set k _)[k] (s.answers.set k (some a))[k] waits
  rw [set_same, set_same]
  rw [hk.2 outstanding] at hk
  exact answerMatches_answered hk outstanding rfl a

theorem change_answerLaw (change : Change i s u) (window : WindowLaw s) (h : AnswerLaw s) : AnswerLaw u := by
  cases change with
  | closed c r =>
    refine ⟨h.1, ?_⟩
    have := publisherWaits_handOn s c
    show answerDue s publisherSlot (publisherWaits (s.handOn c _))
    rw [this]
    exact h.2
  | dispatched e r w first idle =>
    refine answerLaw_putUnit (unit := startWalk e r) h fun k => ?_
    have hempty := window w
    unfold windowSound at hempty
    rw [idle] at hempty
    show placeOutstanding _ = placeOutstanding s.units[w].window[k]
    rw [hempty k]
    simp [startWalk]
  | walkEnded w walk walking ending => exact answerLaw_walkEnded h ending
  | walkWentOn w walk walking answer inUse treated =>
    have hwindow := fun j : PlaceId => congrArg (fun treatEnd => placeOutstanding (TreatEnd.window treatEnd)[j]) treated
    refine answerLaw_answerTaken h answer ((hwindow _).symm.trans ?_) fun j hj => (hwindow j).symm.trans ?_
    · rw [treatElements_outstanding, set_same]
      rfl
    · rw [treatElements_outstanding, set_other _ _ _ _ (Ne.symm hj)]
  | placeDrained w k stopping answer =>
    refine answerLaw_answerTaken (unit := drainedUnit s.units[w] k) h answer ?_ fun j hj => ?_
    · simp only [drainedUnit, set_same]
      rfl
    · simp only [drainedUnit, set_other _ _ _ _ (Ne.symm hj)]
  | readIssued w walk g k ready => exact answerLaw_issueRead h ready
  | writeIssued record current offered => exact answerLaw_issueWrite h current offered
  | slotAnswered k a outstanding => exact answerLaw_answerSlot h a outstanding
  | slotCounted k outstanding =>
    refine answerLaw_slot k h (fun waits hk => ?_) (fun j hj => ⟨set_other _ _ _ _ (Ne.symm hj), rfl⟩) rfl rfl
    rw [State.putSlot_slots, set_same]
    exact hk
  | secondOffered record row current waits first answer =>
    exact answerLaw_publisherTakes h (by simp [answer]) rfl rfl
  | writeReported record status current waits answer =>
    exact answerLaw_publisherTakes h answer (publisherWaits_takeHead _) rfl
  | restarted =>
    refine ⟨fun w k => ?_, ?_⟩ <;>
      simp [State.resetBlocks, State.reset, TagSlot.reset, WalkUnit.reset, answerDue, placeOutstanding, publisherWaits]
  | _ => exact h

/-! ### The arbiter -/

theorem readReady_isSome (unit : WalkUnit) :
    (readReady unit).isSome = true ↔ ∃ priority, offersRead unit priority := by
  simp only [← offerPriority_iff, offerPriority]
  cases readReady unit <;> simp

/-- The arbiter chooses a requester whose offer stands (R124). -/
theorem arbiterChoice_stands {requester : Requester} (choice : arbiterChoice s = some requester) :
    offerStands s requester = true := by
  have hat : ∀ {priority : Nat} {w : UnitId}, offersAt s priority w = true → (readReady s.units[w]).isSome = true := by
    intro priority w hoffer
    exact (readReady_isSome _).2 ⟨priority, (offerPriority_iff _ _).1 (by simpa [offersAt] using hoffer)⟩
  unfold arbiterChoice at choice
  split at choice
  next hpublisher =>
    cases choice
    exact hpublisher
  split at choice
  · cases choice
  next priority _ =>
    split at choice
    next w hclaim =>
      cases choice
      exact hat (Option.filter_eq_some_iff.1 hclaim).2
    next =>
      obtain ⟨w, found, rfl⟩ := Option.map_eq_some_iff.1 choice
      exact hat (List.find?_some found)

/-- What the arbiter law asks of one unit. -/
def unitArbitrated (s : State) (w : UnitId) (unit : WalkUnit) : Prop :=
  (s.grant = some { requester := .walkUnit w, withdrawn := false } → (readReady unit).isSome = true)
    ∧ (s.holdOwner = some w → holdsGrant unit)

/-- The arbiter law, unit by unit and for the Publisher. -/
theorem arbiterLaw_iff (s : State) :
    ArbiterLaw s ↔ (s.grant = some { requester := .publisher, withdrawn := false } → publisherOffers s = true)
      ∧ ∀ w : UnitId, unitArbitrated s w s.units[w] := by
  constructor
  · rintro ⟨hgrant, hhold⟩
    exact ⟨fun hg => hgrant _ hg rfl, fun w => ⟨fun hg => hgrant _ hg rfl, hhold w⟩⟩
  · rintro ⟨hpublisher, hunits⟩
    refine ⟨?_, fun w => (hunits w).2⟩
    rintro ⟨requester, withdrawn⟩ hg (rfl : withdrawn = false)
    cases requester with
    | publisher => exact hpublisher hg
    | walkUnit w => exact (hunits w).1 hg

/-- A unit that offers nothing and holds no HOLD has neither the grant nor the ownership. -/
theorem unitArbitrated_idle {w : UnitId} {unit : WalkUnit} (h : unitArbitrated s w unit)
    (notWalking : ∀ walk, unit.mode ≠ .walking walk) (unit' : WalkUnit) : unitArbitrated s w unit' := by
  refine ⟨fun hg => ?_, fun hhold => ?_⟩
  · obtain ⟨priority, walk, _, hmode, _⟩ := (readReady_isSome unit).1 (h.1 hg)
    exact absurd hmode (notWalking walk)
  · obtain ⟨walk, hmode, -⟩ := h.2 hhold
    exact absurd hmode (notWalking walk)

theorem arbiterLaw_putUnit {w : UnitId} {unit : WalkUnit} (h : ArbiterLaw s) (hunit : unitArbitrated s w unit) :
    ArbiterLaw (s.putUnit w unit) := by
  rw [arbiterLaw_iff] at h ⊢
  exact ⟨h.1, forall_set (P := fun (w : UnitId) (unit : WalkUnit) => unitArbitrated s w unit) hunit h.2⟩

theorem withdrawGrant_standing {w : UnitId} {grant : Option Grant} {requester : Requester}
    (h : grant.map (withdrawGrant w) = some { requester := requester, withdrawn := false }) :
    requester ≠ .walkUnit w ∧ grant = some { requester := requester, withdrawn := false } := by
  obtain ⟨g, rfl, hg⟩ := Option.map_eq_some_iff.1 h
  unfold withdrawGrant at hg
  split at hg
  · cases hg
  next hother =>
    subst hg
    exact ⟨hother, rfl⟩

theorem arbiterLaw_endWalk {w : UnitId} {walk : Walk} (h : ArbiterLaw s) (window : Vector (Option Place) 4)
    (kind : ReportKind) : ArbiterLaw (s.endWalk w walk window kind) := by
  rw [arbiterLaw_iff] at h ⊢
  refine ⟨fun hg => h.1 (withdrawGrant_standing hg).2, fun v => ?_⟩
  by_cases hv : w = v
  · subst hv
    refine ⟨fun hg => absurd rfl (withdrawGrant_standing hg).1, fun hhold => ?_⟩
    have hhold : (if s.holdOwner = some w then none else s.holdOwner) = some w := hhold
    split at hhold
    · cases hhold
    next hnot => exact absurd hhold hnot
  · rw [endWalk_units, set_other _ _ _ _ hv]
    refine ⟨fun hg => (h.2 v).1 (withdrawGrant_standing hg).2, fun hhold => (h.2 v).2 ?_⟩
    have hhold : (if s.holdOwner = some w then none else s.holdOwner) = some v := hhold
    split at hhold
    · cases hhold
    · exact hhold

/-- Treating elements withdraws no offer: it only empties places. -/
theorem offersRead_treated {unit : WalkUnit} {walk : Walk} {k : PlaceId} {place : Place} {a : Answer}
    {working : Option Int} {tallies : Tallies} {window : Vector (Option Place) 4} {priority : Nat}
    (inUse : unit.window[k] = some place)
    (treated : treatElements walk 4 unit.working unit.tallies (unit.window.set k (some { place with answer := some a }))
      = .goesOn working tallies window) (offers : offersRead unit priority) :
    offersRead { unit with window := window, working := working, tallies := tallies } priority := by
  obtain ⟨walk', g, hmode, hpriority, hgenerator, hmore, j, hj⟩ := offers
  refine ⟨walk', g, hmode, hpriority, hgenerator, hmore, j, ?_⟩
  have hother : k ≠ j := by
    rintro rfl
    rw [hj] at inUse
    cases inUse
  have hplace := treatElements_place walk 4 unit.working unit.tallies
    (unit.window.set k (some { place with answer := some a })) j
  rw [set_other _ _ _ _ hother, hj] at hplace
  have hnone := hplace.elim id And.left
  exact (congrArg (fun treatEnd => (TreatEnd.window treatEnd)[j]) treated).symm.trans hnone

theorem publisherOffers_handOn (c : CellId) (r : Round) (h : publisherOffers s = true) :
    publisherOffers (s.handOn c r) = true := by
  unfold State.handOn
  split
  · rw [State.appendPublication, takeHead_busy]
    · exact h
    · intro hnone
      have hnone : s.publisher = none := hnone
      rw [publisherOffers, hnone] at h
      cases h
  · rw [finishRound_eq]
    exact h

theorem change_arbiterLaw (change : Change i s u) (h : ArbiterLaw s) : ArbiterLaw u := by
  have hunits := (arbiterLaw_iff s).1 h
  cases change with
  | closed c r => exact (arbiterLaw_iff _).2 ⟨fun hg => publisherOffers_handOn c _ (hunits.1 hg), hunits.2⟩
  | dispatched e r w first idle =>
    exact arbiterLaw_putUnit (s := s) h (unitArbitrated_idle (unit := s.units[w]) (hunits.2 w) (fun _ hmode => nomatch idle.symm.trans hmode) _)
  | @walkEnded w walk answers window kind =>
    exact arbiterLaw_endWalk (s := { s with answers := answers }) (walk := walk) h window kind
  | walkWentOn w walk walking answer inUse treated =>
    refine arbiterLaw_putUnit (s := { s with answers := _ }) h ⟨fun hg => ?_, (hunits.2 w).2⟩
    obtain ⟨priority, hoffer⟩ := (readReady_isSome _).1 ((hunits.2 w).1 hg)
    exact (readReady_isSome _).2 ⟨priority, offersRead_treated inUse treated hoffer⟩
  | placeDrained w k stopping =>
    exact arbiterLaw_putUnit (s := { s with answers := _ }) h
      (unitArbitrated_idle (unit := s.units[w]) (hunits.2 w) (fun _ hmode => nomatch stopping.symm.trans hmode) _)
  | readIssued w walk g k ready =>
    obtain ⟨hmode, -, -⟩ := readReady_spec ready
    refine ⟨(fun g hg => nomatch hg), fun v hhold => ?_⟩
    have hhold : (if walk.contribution.hold then some w else none) = some v := hhold
    split at hhold
    next hold =>
      cases hhold
      rw [issueRead_units, set_same]
      exact ⟨walk, hmode, hold⟩
    · cases hhold
  | granted requester choice =>
    refine ⟨?_, h.2⟩
    rintro g hg -
    cases hg
    exact arbiterChoice_stands choice
  | declined => exact ⟨(fun g hg => nomatch hg), h.2⟩
  | writeIssued record => exact ⟨(fun g hg => nomatch hg), h.2⟩
  | secondOffered record => exact (arbiterLaw_iff _).2 ⟨fun _ => rfl, hunits.2⟩
  | writeReported record status current waits =>
    refine (arbiterLaw_iff _).2 ⟨fun hg => ?_, hunits.2⟩
    have := hunits.1 hg
    rw [publisherOffers, current] at this
    dsimp only at this
    rw [waits] at this
    cases this
  | restarted => exact ⟨(fun g hg => nomatch hg), (fun w hw => nomatch hw)⟩
  | _ => exact h

/-- Settles O55: every change keeps the five laws, and completing the event leaves no grant due. -/
theorem stepKeepsTheMemoryPortLaws : Obligations.StepKeepsTheMemoryPortLaws := by
  intro s t next
  have hboth : ∀ {i : Instr} {s u : State}, Change i s u → WindowLaw s ∧ AnswerLaw s → WindowLaw u ∧ AnswerLaw u :=
    fun change ⟨hwindow, hanswer⟩ => ⟨change_windowLaw change hwindow, change_answerLaw change hwindow hanswer⟩
  exact ⟨fun h => step_keeps next change_windowLaw fun _ => h, fun h => step_keeps next change_slotLaw fun _ => h,
    fun h => step_keeps next change_timebaseLaw fun _ => h, fun h => step_keeps next change_arbiterLaw fun _ => h,
    fun hwindow hanswer => (step_keeps next hboth fun _ => ⟨hwindow, hanswer⟩).2, step_grantLaw next⟩

end Sys2Proof.Machine
end

section
/-! Proofs for laws L1, L2 and L5 and the place of every PUBLISHING cell: the law of one cell stated for its tokens and
entries, how they change, then each law change by change. -/

namespace Sys2Proof.Machine

open Sys2Proof.Safety

variable {i : Instr} {s t u : State} {c : CellId} {number : RoundNumber} {r : Round}

/-! ### The law of one cell -/

/-- The walk of a round fits the walks of its cell (`walkLinked`, for tokens given). -/
def walkFits (c : CellId) (number : RoundNumber) (tokens : List WalkToken) (r : Round) : Prop :=
  (r.walkInFlight = none ↔ r.inFlightHost = none)
    ∧ tokens = (r.inFlightHost.map (fun h => (c, number, h))).toList
    ∧ (∀ h, r.inFlightHost = some h → r.statuses[h] = some .pending)
    ∧ (r.inFlightHost ≠ none → r.phase = .collecting ∨ r.phase = .draining)
    ∧ (r.phase = .draining →
        r.inFlightHost ≠ none ∧ ∀ h : HostId, r.statuses[h] = some .pending → r.inFlightHost = some h)

/-- The entries of a cell fit its round (`entriesLinked`, for entries given). -/
def entriesFit (number : RoundNumber) (entries : List Contribution) (r : Round) : Prop :=
  (r.phase ≠ .collecting → entries = [])
    ∧ (entries.map (·.host)).Nodup
    ∧ ∀ e ∈ entries, e.round = number ∧ r.statuses[e.host] = some .pending ∧ r.inFlightHost ≠ some e.host

/-- In ABSORBING, PUBLISHING and HELD every posted host has arrived. -/
def allArrived (r : Round) : Prop :=
  r.phase = .absorbing ∨ r.phase = .publishing ∨ r.phase = .held → r.arrived = r.posted

/-- The round law of one cell, for its walks and entries given. -/
def roundFits (c : CellId) (number : RoundNumber) (tokens : List WalkToken) (entries : List Contribution)
    (round : Option Round) : Prop :=
  match round with
  | none => tokens = [] ∧ entries = []
  | some r => membersSound r ∧ walkFits c number tokens r ∧ entriesFit number entries r ∧ allArrived r

theorem roundLaw_iff (s : State) :
    RoundLaw s ↔ ∀ c, roundFits c s.cells[c].number (cellTokens s c) (cellEntries s c) s.cells[c].round := Iff.rfl

theorem roundLaw_round (h : RoundLaw s) (round : s.cells[c].round = some r) :
    membersSound r ∧ walkFits c s.cells[c].number (cellTokens s c) r ∧ entriesFit s.cells[c].number (cellEntries s c) r
      ∧ allArrived r := by
  have := (roundLaw_iff s).1 h c
  rwa [round] at this

/-- Walks count as they are, in whatever order, and entries may leave. -/
theorem roundFits_mono {tokens tokens' : List WalkToken} {entries entries' : List Contribution} {round : Option Round}
    (h : roundFits c number tokens entries round) (walks : tokens'.Perm tokens) (left : entries'.Subperm entries) :
    roundFits c number tokens' entries' round := by
  cases round with
  | none =>
    obtain ⟨rfl, rfl⟩ := h
    exact ⟨walks.eq_nil, by simpa using left⟩
  | some r =>
    obtain ⟨members, ⟨hnone, htokens, hpending, hphase, hdraining⟩, ⟨hentries, hhosts, hall⟩, harrived⟩ := h
    refine ⟨members, ⟨hnone, ?_, hpending, hphase, hdraining⟩, ⟨fun hp => ?_, ?_, ?_⟩, harrived⟩
    · subst htokens
      cases hhost : r.inFlightHost with
      | none => simpa [hhost] using walks
      | some h => simpa [hhost] using walks
    · simpa [hentries hp] using left
    · obtain ⟨l, hperm, hsub⟩ := left
      exact ((hperm.map _).nodup_iff).1 (hhosts.sublist (hsub.map _))
    · exact fun e he => hall e (left.subset he)

/-- The round law after a change of one cell. -/
theorem roundLaw_at (h : RoundLaw s)
    (cell : roundFits c t.cells[c].number (cellTokens t c) (cellEntries t c) t.cells[c].round)
    (others : ∀ d, d ≠ c → t.cells[d] = s.cells[d] ∧ (cellTokens t d).Perm (cellTokens s d)
      ∧ (cellEntries t d).Subperm (cellEntries s d)) : RoundLaw t := by
  refine (roundLaw_iff t).2 fun d => ?_
  by_cases hd : d = c
  · rw [hd]
    exact cell
  · obtain ⟨hcell, walks, left⟩ := others d hd
    rw [hcell]
    exact roundFits_mono ((roundLaw_iff s).1 h d) walks left

/-- A cell whose walks and entries stay, with a round that fits them. -/
theorem roundLaw_putCell {cell : Cell} (h : RoundLaw s)
    (fits : roundFits c cell.number (cellTokens s c) (cellEntries s c) cell.round) : RoundLaw (s.putCell c cell) := by
  refine roundLaw_at (c := c) h ?_ fun d hd => ⟨set_other _ _ _ _ (Ne.symm hd), .refl _, List.Subperm.refl _⟩
  rw [show (s.putCell c cell).cells[c] = cell from set_same _ _ _]
  exact fits

/-- A round with no walk in flight outside DRAINING fits a cell with no walk. -/
theorem walkFits_none (walk : r.walkInFlight = none) (host : r.inFlightHost = none) (phase : r.phase ≠ .draining) :
    walkFits c number [] r :=
  ⟨by simp [walk, host], by simp [host], by simp [host], by simp [host], fun hd => absurd hd phase⟩

/-- A round with no walk and no entry. -/
theorem roundFits_quiet (members : membersSound r) (walk : r.walkInFlight = none) (host : r.inFlightHost = none)
    (phase : r.phase ≠ .draining) (arrived : allArrived r) : roundFits c number [] [] (some r) := by
  exact ⟨members, walkFits_none walk host phase, ⟨fun _ => rfl, List.nodup_nil, by simp⟩, arrived⟩

/-! ### Membership sets -/

theorem arrive_statuses (r : Round) (h g : HostId) (status : ContributionStatus) :
    (r.arrive h status).statuses[g] = if h = g then some status else r.statuses[g] := by
  unfold Round.arrive
  split
  next heq => rw [heq, set_same]
  next hne => exact set_other _ _ _ _ hne

theorem post_statuses (r : Round) (h g : HostId) :
    (r.post h).statuses[g] = if h = g then some .pending else r.statuses[g] := by
  unfold Round.post
  split
  next heq => rw [heq, set_same]
  next hne => exact set_other _ _ _ _ hne

theorem membersSound_arrive {h : HostId} {status : ContributionStatus} (members : membersSound r)
    (posted : member r.posted h = true) (final : status ≠ .pending) : membersSound (r.arrive h status) := by
  intro g
  have hg := members g
  by_cases heq : h = g
  · subst heq
    simpa [Round.arrive, posted, final] using hg.2.1 posted
  · have hval : h.val ≠ g.val := fun hh => heq (Fin.ext hh)
    simpa [Round.arrive, Ne.symm heq, hval] using hg

theorem membersSound_post {h : HostId} (members : membersSound r) (participant : member r.participants h = true)
    (fresh : member r.posted h = false) : membersSound (r.post h) := by
  intro g
  have hg := members g
  by_cases heq : h = g
  · subst heq
    have harrived : member r.arrived h = false := by
      by_contra harr
      rw [hg.1 (by simpa using harr)] at fresh
      cases fresh
    simp [Round.post, participant, harrived]
  · have hval : h.val ≠ g.val := fun hh => heq (Fin.ext hh)
    simpa [Round.post, Ne.symm heq, hval] using hg

theorem membersSound_settled {r' : Round} {except : Option HostId} {status : ContributionStatus}
    (settled : pendingSettled r r' except status) (final : status ≠ .pending) (members : membersSound r) :
    membersSound r' := by
  obtain ⟨hframe, hhosts⟩ := settled
  intro g
  have hg := members g
  have hg' := hhosts g
  have hposted : r'.posted = r.posted := by rw [hframe]
  have hparticipants : r'.participants = r.participants := by rw [hframe]
  rw [hposted, hparticipants]
  split at hg'
  next hpending =>
    have := hg.2.2.2.1 hpending.1
    rw [hg'.1, hg'.2]
    simpa [this.1, final] using hg.2.1 this.1
  · rw [hg'.1, hg'.2]
    exact hg

/-- After the pending hosts have been settled only the in-flight host may be pending. -/
theorem settled_pending {r' : Round} {except : Option HostId} {status : ContributionStatus}
    (settled : pendingSettled r r' except status) (final : status ≠ .pending) {g : HostId}
    (pending : r'.statuses[g] = some .pending) : except = some g ∧ r.statuses[g] = some .pending := by
  have hg := settled.2 g
  split at hg
  · rw [hg.2] at pending
    exact absurd (Option.some.inj pending) final
  next hnot =>
    rw [hg.2] at pending
    exact ⟨by_contra fun hne => hnot ⟨pending, hne⟩, pending⟩

/-- When no posted host is pending, every posted host has arrived. -/
theorem arrived_eq_posted (members : membersSound r) (none : ∀ g : HostId, r.statuses[g] ≠ some .pending) :
    r.arrived = r.posted := by
  refine hostSet_ext fun g => ?_
  obtain ⟨harrived, -, -, hpending⟩ := members g
  have := fun h => none g (hpending.2 h)
  cases hposted : member r.posted g <;> cases harr : member r.arrived g <;> simp_all

theorem pending_not_arrived (members : membersSound r) {g : HostId} (arrived : r.arrived = r.posted) :
    r.statuses[g] ≠ some .pending := by
  intro hpending
  obtain ⟨hposted, harrived⟩ := (members g).2.2.2.1 hpending
  rw [arrived, hposted] at harrived
  cases harrived

theorem membersSound_fresh (opener : HostId) (participants : HostSet) (settings : Settings) (repeats final : Bool)
    (timeout : Nat) (destination : Option Addr) :
    membersSound (freshRound opener participants settings repeats final timeout destination) := by
  intro g
  have hempty : member 0#4 g = false := member_zero g
  simp [freshRound, hempty]

/-! ### Rounds that are over -/

/-- A round whose posted hosts have all arrived and that has no walk. -/
def roundOver (r : Round) : Prop :=
  membersSound r ∧ r.arrived = r.posted ∧ r.walkInFlight = none ∧ r.inFlightHost = none

theorem roundFits_fresh (opener : HostId) (participants : HostSet) (settings : Settings) (repeats final : Bool)
    (timeout : Nat) (destination : Option Addr) :
    roundFits c number [] [] (some (freshRound opener participants settings repeats final timeout destination)) :=
  roundFits_quiet (membersSound_fresh _ _ _ _ _ _ _) rfl rfl (by simp [freshRound]) fun _ => rfl

/-- A round that is over fits in PUBLISHING and in HELD. -/
theorem roundFits_over {q : Round} (ended : roundOver r) (phase : q.phase ≠ .draining)
    (same : q = { r with
      phase := q.phase, publication := q.publication, contributionNotices := q.contributionNotices
      waitNotices := q.waitNotices }) : roundFits c number [] [] (some q) := by
  obtain ⟨members, arrived, walk, host⟩ := ended
  have hfields : q.arrived = r.arrived ∧ q.posted = r.posted ∧ q.participants = r.participants
      ∧ q.statuses = r.statuses ∧ q.walkInFlight = r.walkInFlight ∧ q.inFlightHost = r.inFlightHost := by
    rw [same]
    exact ⟨rfl, rfl, rfl, rfl, rfl, rfl⟩
  obtain ⟨harrived, hposted, hparticipants, hstatuses, hwalk, hhost⟩ := hfields
  refine roundFits_quiet (fun g => ?_) (hwalk.trans walk) (hhost.trans host) phase fun _ => ?_
  · rw [harrived, hposted, hparticipants, hstatuses]
    exact members g
  · rw [harrived, hposted, arrived]

theorem roundFits_disposed (ended : roundOver r) (number' : RoundNumber) :
    roundFits c number' [] [] (disposed number r).round := by
  unfold disposed
  split
  · exact ⟨rfl, rfl⟩
  split
  · rw [← freshRound_eq]
    exact roundFits_fresh _ _ _ _ _ _ _
  · exact roundFits_over ended (by simp) rfl

theorem roundFits_handedOn (ended : roundOver r) (number' : RoundNumber) :
    roundFits c number' [] [] (cellHandedOn number r).round := by
  unfold cellHandedOn
  split
  · exact roundFits_disposed (r := { r with publication := some .notWritten }) ended number'
  · exact roundFits_over ended (by simp) rfl

/-- A round that settles its pending hosts and has no walk is over. -/
theorem roundOver_settled {status : ContributionStatus} (members : membersSound r) (walk : r.walkInFlight = none)
    (host : r.inFlightHost = none) (final : status ≠ .pending) : roundOver (r.settlePending status) := by
  have hspec := settlePending_spec r status
  have hmembers := membersSound_settled hspec final members
  refine ⟨hmembers, arrived_eq_posted hmembers fun g pending => ?_, ?_, ?_⟩
  · have := (settled_pending hspec final pending).1
    rw [host] at this
    cases this
  · rw [settlePending_eq]
    exact walk
  · rw [settlePending_eq]
    exact host

theorem roundOver_shut (ended : roundOver r) : roundOver (shutRound r) := ended

/-- In DRAINING, the report of the in-flight host leaves every posted host arrived. -/
theorem roundOver_drained {h : HostId} {status : ContributionStatus} (members : membersSound r)
    (host : r.inFlightHost = some h) (flying : r.statuses[h] = some .pending)
    (others : ∀ g : HostId, r.statuses[g] = some .pending → r.inFlightHost = some g) (final : status ≠ .pending) :
    roundOver (r.arrive h status).clearWalk := by
  have hmembers := membersSound_arrive members ((members h).2.2.2.1 flying).1 final
  refine ⟨hmembers, arrived_eq_posted hmembers fun g pending => ?_, rfl, rfl⟩
  have pending : (r.arrive h status).statuses[g] = some .pending := pending
  rw [arrive_statuses] at pending
  split at pending
  · exact final (Option.some.inj pending)
  next hne => exact hne (Option.some.inj (host.symm.trans (others g pending)))

theorem reportStatus_final (kind : ReportKind) : reportStatus kind ≠ .pending := by
  cases kind <;> simp [reportStatus]

/-! ### Walks -/

/-- The walks of the units. -/
def unitTokens (units : Vector WalkUnit 4) : List WalkToken :=
  unitOrder.flatMap fun w => unitToken units[w]

/-- The walks of the reports. -/
def reportTokens (reports : List WalkReport) : List WalkToken :=
  reports.map fun m => (m.cell, m.round, m.host)

theorem walkTokens_eq (s : State) : walkTokens s = unitTokens s.units ++ reportTokens s.walkReports := rfl

/-- Writing a unit exchanges its walk. -/
theorem unitTokens_set (units : Vector WalkUnit 4) (w : UnitId) (unit : WalkUnit) :
    (unitTokens (units.set w unit) ++ unitToken units[w]).Perm (unitTokens units ++ unitToken unit) := by
  have all : ∀ w : UnitId, w = 0 ∨ w = 1 ∨ w = 2 ∨ w = 3 := by decide
  refine List.perm_iff_count.2 fun token => ?_
  unfold unitTokens unitOrder
  rcases all w with rfl | rfl | rfl | rfl <;> simp <;> omega

theorem unitTokens_same {units : Vector WalkUnit 4} {w : UnitId} {unit : WalkUnit}
    (same : unitToken unit = unitToken units[w]) : (unitTokens (units.set w unit)).Perm (unitTokens units) := by
  have := unitTokens_set units w unit
  rw [same] at this
  exact (List.perm_append_right_iff _).1 this

/-- The walk of a report is one of its cell. -/
def reportToken (m : WalkReport) : WalkToken :=
  (m.cell, m.round, m.host)

/-- One more walk is one more of its cell. -/
theorem cellTokens_cons {token : WalkToken} (h : (walkTokens t).Perm (token :: walkTokens s)) (d : CellId) :
    (cellTokens t d).Perm (if token.1 = d then token :: cellTokens s d else cellTokens s d) := by
  have := h.filter fun x => decide (x.1 = d)
  rw [List.filter_cons] at this
  simpa [cellTokens] using this

theorem cellTokens_same (h : (walkTokens t).Perm (walkTokens s)) (d : CellId) :
    (cellTokens t d).Perm (cellTokens s d) :=
  h.filter _

/-- The report found is of the cell, and its walk is one of the cell's. -/
theorem report_tokens {kind : ReportKind → Bool} {m : WalkReport}
    (found : s.walkReports.find? (reportFor c kind) = some m)
    (units : t.units = s.units) (reports : t.walkReports = s.walkReports.eraseP (reportFor c kind)) :
    m.cell = c ∧ (walkTokens s).Perm (reportToken m :: walkTokens t) := by
  have hm := List.find?_some found
  simp only [reportFor, Bool.and_eq_true, decide_eq_true_eq] at hm
  refine ⟨hm.1, ?_⟩
  rw [walkTokens_eq, walkTokens_eq, units, reports]
  have := (eraseP_found_perm found).map fun m => (m.cell, m.round, m.host)
  exact ((this.symm).append_left _).trans List.perm_middle

/-- A report for a cell is that of its one walk (law L1). -/
theorem roundLaw_report (h : RoundLaw s) (round : s.cells[c].round = some r) {kind : ReportKind → Bool} {m : WalkReport}
    (found : s.walkReports.find? (reportFor c kind) = some m)
    (units : t.units = s.units) (reports : t.walkReports = s.walkReports.eraseP (reportFor c kind)) :
    r.inFlightHost = some m.host ∧ m.round = s.cells[c].number ∧ cellTokens t c = []
      ∧ ∀ d, d ≠ c → (cellTokens t d).Perm (cellTokens s d) := by
  obtain ⟨hcell, hperm⟩ := report_tokens found units reports
  obtain ⟨-, ⟨-, htokens, -⟩, -⟩ := roundLaw_round h round
  have hc := cellTokens_cons hperm c
  rw [if_pos (show (reportToken m).1 = c from hcell), htokens] at hc
  have hother : ∀ d, d ≠ c → (cellTokens t d).Perm (cellTokens s d) := by
    intro d hd
    have := cellTokens_cons hperm d
    rw [if_neg (show (reportToken m).1 ≠ d from fun heq => hd (heq.symm.trans hcell))] at this
    exact this.symm
  cases hhost : r.inFlightHost with
  | none =>
    rw [hhost] at hc
    cases hc.symm.eq_nil
  | some host =>
    rw [hhost] at hc
    have heq : [(c, s.cells[c].number, host)] = reportToken m :: cellTokens t c := List.singleton_perm.1 hc
    simp only [reportToken, List.cons.injEq, Prod.mk.injEq] at heq
    obtain ⟨⟨-, hnumber, hhost'⟩, hrest⟩ := heq
    exact ⟨by rw [hhost'], hnumber.symm, hrest.symm, hother⟩

/-- A cell without a walk in flight has no walk. -/
theorem roundLaw_noWalk (h : RoundLaw s) (round : s.cells[c].round = some r) (walk : r.walkInFlight = none) :
    r.inFlightHost = none ∧ cellTokens s c = [] := by
  obtain ⟨-, ⟨hnone, htokens, -⟩, -⟩ := roundLaw_round h round
  have hhost := hnone.1 walk
  rw [hhost] at htokens
  exact ⟨hhost, htokens⟩

/-- A cell that is neither COLLECTING nor DRAINING has neither a walk nor an entry, and all its posted hosts have
arrived. -/
theorem roundFits_quiet_over {tokens : List WalkToken} {entries : List Contribution}
    (h : roundFits c number tokens entries (some r))
    (phase : r.phase = .absorbing ∨ r.phase = .publishing ∨ r.phase = .held) :
    roundOver r ∧ tokens = [] ∧ entries = [] := by
  obtain ⟨members, ⟨hnone, htokens, -, hphase, -⟩, ⟨hentries, -⟩, harrived⟩ := h
  have hhost : r.inFlightHost = none := by
    by_contra hhost
    rcases hphase hhost with hp | hp <;> simp [hp] at phase
  rw [hhost] at htokens
  refine ⟨⟨members, harrived phase, hnone.2 hhost, hhost⟩, htokens, hentries ?_⟩
  rcases phase with hp | hp | hp <;> simp [hp]

theorem roundLaw_quiet (h : RoundLaw s) (round : s.cells[c].round = some r)
    (phase : r.phase = .absorbing ∨ r.phase = .publishing ∨ r.phase = .held) :
    roundOver r ∧ cellTokens s c = [] ∧ cellEntries s c = [] :=
  roundFits_quiet_over (roundLaw_round h round) phase

/-! ### Closing -/

/-- A round that is handed on is over, and its cell has no walk and no entry left. -/
theorem closing_over (h : RoundLaw s) (round : s.cells[c].round = some r) {reports : List WalkReport} {q : Round}
    (closing : Closing s c r reports q) (units : t.units = s.units) (reports' : t.walkReports = reports) :
    roundOver q ∧ cellTokens t c = [] ∧ cellEntries s c = []
      ∧ ∀ d, d ≠ c → (cellTokens t d).Perm (cellTokens s d) := by
  obtain ⟨members, ⟨hnone, htokens, hpendingFlight, hflight, hdraining⟩, ⟨hphase, hhosts, hentries⟩, harrived⟩ :=
    roundLaw_round h round
  have hsame : reports = s.walkReports → ∀ d, cellTokens t d = cellTokens s d := by
    intro hr d
    rw [cellTokens, cellTokens, walkTokens_eq, walkTokens_eq, units, reports', hr]
  have hclean : r.walkInFlight = none → r.arrived = r.participants → r.phase = .collecting →
      roundOver r ∧ cellEntries s c = [] := by
    intro noWalk all collecting
    have hposted : r.arrived = r.posted := by
      refine hostSet_ext fun g => ?_
      obtain ⟨hin, hpart, -⟩ := members g
      rw [← all] at hpart
      cases harr : member r.arrived g <;> cases hpost : member r.posted g <;> simp_all
    refine ⟨⟨members, hposted, noWalk, (roundLaw_noWalk h round noWalk).1⟩, ?_⟩
    exact List.eq_nil_iff_forall_not_mem.2 fun e he => pending_not_arrived members hposted (hentries e he).2.1
  cases closing with
  | early cause early collecting noWalk noEntry =>
    obtain ⟨hhost, hnil⟩ := roundLaw_noWalk h round noWalk
    exact ⟨roundOver_shut (roundOver_settled (r := { r with outcome := some cause, deadline := 0 }) members noWalk hhost
      (by simp)), (hsame rfl c).trans hnil, noEntry, fun d _ => hsame rfl d ▸ .refl _⟩
  | absorbing absorbing =>
    obtain ⟨hover, hnil, hnone⟩ := roundLaw_quiet h round (.inl absorbing)
    exact ⟨hover, (hsame rfl c).trans hnil, hnone, fun d _ => hsame rfl d ▸ .refl _⟩
  | clean collecting noWalk all stage =>
    obtain ⟨hover, hnone⟩ := hclean noWalk all collecting
    exact ⟨hover, (hsame rfl c).trans (roundLaw_noWalk h round noWalk).2, hnone, fun d _ => hsame rfl d ▸ .refl _⟩
  | cleanFault collecting noWalk all stage =>
    obtain ⟨hover, hnone⟩ := hclean noWalk all collecting
    exact ⟨hover, (hsame rfl c).trans (roundLaw_noWalk h round noWalk).2, hnone, fun d _ => hsame rfl d ▸ .refl _⟩
  | @drained kind m draining found =>
    obtain ⟨hhost, -, hnil, hothers⟩ := roundLaw_report h round found units reports'
    exact ⟨roundOver_shut (roundOver_drained members hhost (hpendingFlight _ hhost) (hdraining draining).2
      (reportStatus_final m.kind)), hnil, hphase (by simp [draining]), hothers⟩

/-! ### The changes -/

/-- One cell takes a round that fits what the cell has; walks and entries stay. -/
theorem roundLaw_putRound {q : Round} (h : RoundLaw s)
    (fits : roundFits c s.cells[c].number (cellTokens s c) (cellEntries s c) (some q)) : RoundLaw (s.putRound c q) :=
  roundLaw_putCell (cell := { number := s.cells[c].number, round := some q }) h fits

/-- The round law after a change of the units alone that keeps the walks. -/
theorem roundLaw_walks (h : RoundLaw s) (cells : t.cells = s.cells) (entries : t.contributions = s.contributions)
    (walks : (walkTokens t).Perm (walkTokens s)) : RoundLaw t := by
  refine (roundLaw_iff t).2 fun c => ?_
  rw [cells]
  refine roundFits_mono ((roundLaw_iff s).1 h c) (cellTokens_same walks c) ?_
  rw [cellEntries, entries]
  exact List.Subperm.refl _

/-- A round whose pending hosts but the in-flight one are settled fits in DRAINING. -/
theorem roundFits_draining {tokens : List WalkToken} {q : Round} {status : ContributionStatus}
    (members : membersSound r) (walk : walkFits c number tokens r) (flying : r.inFlightHost ≠ none)
    (settled : pendingSettled r q r.inFlightHost status) (final : status ≠ .pending) :
    roundFits c number tokens [] (some { q with phase := .draining }) := by
  obtain ⟨hnone, htokens, hpending, -, -⟩ := walk
  have hfields : q.walkInFlight = r.walkInFlight ∧ q.inFlightHost = r.inFlightHost := by
    rw [settled.1]
    exact ⟨rfl, rfl⟩
  have hmembers := membersSound_settled settled final members
  refine ⟨hmembers, ⟨?_, ?_, ?_, fun _ => .inr rfl, fun _ => ⟨?_, ?_⟩⟩,
    ⟨fun _ => rfl, List.nodup_nil, by simp⟩, by simp [allArrived]⟩
  all_goals dsimp only
  · rw [hfields.1, hfields.2]
    exact hnone
  · rw [hfields.2]
    exact htokens
  · intro h hh
    rw [hfields.2] at hh
    have hg := settled.2 h
    rw [if_neg fun hand => hand.2 hh] at hg
    exact hg.2.trans (hpending h hh)
  · rw [hfields.2]
    exact flying
  · intro h hh
    rw [hfields.2]
    exact (settled_pending settled final hh).1

/-- The changes of a round that stays in its cell fit what the cell has. -/
theorem RoundChange.fits {q : Round} (h : RoundLaw s) (round : s.cells[c].round = some r)
    (change : RoundChange s c r q) :
    roundFits c s.cells[c].number (cellTokens s c) (cellEntries s c) (some q) := by
  have hr := roundLaw_round h round
  cases change with
  | finalSet => exact hr
  | counted => exact hr
  | drains cause early collecting walk noEntry =>
    rw [noEntry]
    obtain ⟨members, hwalk, -⟩ := hr
    have flying : r.inFlightHost ≠ none := fun hhost => by
      rw [hwalk.1.2 hhost] at walk
      cases walk
    exact roundFits_draining (r := { r with outcome := some cause, deadline := 0 }) members hwalk flying
      (settlePending_spec _ _) (by simp)

/-- A notice reserved for a membership changes the membership sets alone. -/
theorem JoinChange.fits {g : HostId} {q : Round} (h : RoundLaw s) (round : s.cells[c].round = some r)
    (change : JoinChange g r q) :
    roundFits c s.cells[c].number (cellTokens s c) (cellEntries s c) (some q) := by
  cases change with
  | absorbed absorbing participant fresh =>
    obtain ⟨⟨members, arrived, walk, host⟩, htokens, hentries⟩ := roundLaw_quiet h round (.inl absorbing)
    rw [htokens, hentries]
    refine roundFits_quiet ?_ walk host (by simp [Round.arrive, Round.post, absorbing]) fun _ => ?_
    · exact membersSound_arrive (membersSound_post members participant fresh) (by simp [Round.post]) (by simp)
    · exact congrArg (join · g) arrived
  | waits =>
    have hr := roundLaw_round h round
    exact hr

/-- A report in COLLECTING leaves a round that fits its cell without the walk. -/
theorem ReportChange.fits {kind : ReportKind → Bool} {m : WalkReport} {q : Round} (h : RoundLaw s)
    (round : s.cells[c].round = some r) (collecting : r.phase = .collecting)
    (found : s.walkReports.find? (reportFor c kind) = some m) (change : ReportChange s c m r q) :
    roundFits c s.cells[c].number [] (cellEntries s c) (some q) := by
  obtain ⟨members, ⟨-, -, hpending, -⟩, ⟨-, hhosts, hentries⟩, -⟩ := roundLaw_round h round
  obtain ⟨hhost, -⟩ := roundLaw_report h round found (t := { s with walkReports := s.walkReports.eraseP _ }) rfl rfl
  obtain ⟨hposted, -⟩ := (members m.host).2.2.2.1 (hpending _ hhost)
  have hother : ∀ e ∈ cellEntries s c, m.host ≠ e.host := fun e he heq => (hentries e he).2.2 (heq ▸ hhost)
  cases change with
  | committed done =>
    refine ⟨membersSound_arrive members hposted (by simp), walkFits_none rfl rfl ?_, ⟨?_, hhosts, fun e he => ?_⟩, ?_⟩
    · simp [Round.clearWalk, Round.arrive, collecting]
    · exact fun hp => absurd collecting hp
    · refine ⟨(hentries e he).1, ?_, by simp [Round.clearWalk]⟩
      show (Round.arrive _ m.host .walked).statuses[e.host] = some .pending
      rw [arrive_statuses, if_neg (hother e he)]
      exact (hentries e he).2.1
    · simp [allArrived, Round.clearWalk, Round.arrive, collecting]
  | faulted kind index address noEntry =>
    rw [noEntry]
    refine roundFits_over (roundOver_settled (status := .absorbed) ?_ rfl rfl (by simp)) (by simp) rfl
    exact membersSound_arrive (status := .faulting) members hposted (by simp)
  | cutAside =>
    refine ⟨members, walkFits_none rfl rfl (by simp [Round.clearWalk, collecting]), ⟨?_, hhosts, fun e he => ?_⟩, ?_⟩
    · exact fun hp => absurd collecting hp
    · exact ⟨(hentries e he).1, (hentries e he).2.1, by simp [Round.clearWalk]⟩
    · simp [allArrived, Round.clearWalk, collecting]

/-- A loss withdraws memberships, and frees a HELD cell, which has no walk and no entry. -/
theorem roundFits_loseHost {tokens : List WalkToken} {entries : List Contribution} (h : HostId) {cell : Cell}
    (fits : roundFits c cell.number tokens entries cell.round) :
    roundFits c (loseHost h cell).number tokens entries (loseHost h cell).round := by
  unfold loseHost
  split
  next hnone => exact fits
  next r hround =>
    rw [hround] at fits
    split
    next held =>
      obtain ⟨-, htokens, hentries⟩ := roundFits_quiet_over fits (.inr (.inr held.1))
      exact ⟨htokens, hentries⟩
    · exact fits

/-- The posted contribution is pending, and every other entry of the cell is another host's. -/
theorem roundFits_posted {tokens : List WalkToken} {entries entries' : List Contribution} {e : Contribution}
    (fits : roundFits c number tokens entries (some r)) (collecting : r.phase = .collecting)
    (participant : member r.participants e.host = true) (fresh : member r.posted e.host = false)
    (current : e.round = number) (entered : entries'.Perm (e :: entries)) :
    roundFits c number tokens entries' (some (r.post e.host)) := by
  obtain ⟨members, ⟨hnone, htokens, hpending, hphase, -⟩, ⟨-, hhosts, hentries⟩, -⟩ := fits
  have hposted : ∀ g : HostId, r.statuses[g] = some .pending → e.host ≠ g := by
    rintro g hg rfl
    rw [((members e.host).2.2.2.1 hg).1] at fresh
    cases fresh
  refine ⟨membersSound_post members participant fresh, ⟨hnone, htokens, fun h hh => ?_, hphase, fun hd => ?_⟩,
    ⟨fun hp => absurd collecting hp, ?_, fun x hx => ?_⟩, ?_⟩
  · rw [post_statuses, if_neg (hposted h (hpending h hh))]
    exact hpending h hh
  · cases collecting.symm.trans hd
  · refine ((entered.map _).nodup_iff).2 (List.nodup_cons.2 ⟨fun hmem => ?_, hhosts⟩)
    obtain ⟨x, hx, heq⟩ := List.mem_map.1 hmem
    exact hposted x.host (hentries x hx).2.1 heq.symm
  · rw [post_statuses]
    rcases List.mem_cons.1 (entered.subset hx) with rfl | hx
    · rw [if_pos rfl]
      exact ⟨current, rfl, fun hh => hposted _ (hpending _ hh) rfl⟩
    · rw [if_neg (hposted _ (hentries x hx).2.1)]
      exact hentries x hx
  · simp [allArrived, Round.post, collecting]

/-- The dispatched entry becomes the walk of its cell. -/
theorem roundFits_dispatched {tokens : List WalkToken} {entries entries' : List Contribution} {e : Contribution}
    (w : UnitId) (fits : roundFits e.cell number [] entries (some r))
    (walks : tokens.Perm [(e.cell, e.round, e.host)]) (left : (e :: entries').Perm entries) :
    roundFits e.cell number tokens entries' (some { r with walkInFlight := some w, inFlightHost := some e.host }) := by
  obtain ⟨members, -, ⟨hphase, hhosts, hentries⟩, -⟩ := fits
  have he : e ∈ entries := left.subset (List.mem_cons_self ..)
  have hcollecting : r.phase = .collecting := by
    by_contra hp
    rw [hphase hp] at he
    cases he
  have hnodup := ((left.map (·.host)).nodup_iff).2 hhosts
  rw [List.map_cons, List.nodup_cons] at hnodup
  refine ⟨members, ⟨by simp, ?_, ?_, fun _ => .inl hcollecting, fun hd => ?_⟩,
    ⟨fun hp => absurd hcollecting hp, hnodup.2, fun x hx => ?_⟩, ?_⟩
  · rw [List.perm_singleton.1 walks, (hentries e he).1]
    rfl
  · rintro h hh
    cases hh
    exact (hentries e he).2.1
  · cases hcollecting.symm.trans hd
  · obtain ⟨hnumber, hpending, -⟩ := hentries x (left.subset (List.mem_cons_of_mem _ hx))
    refine ⟨hnumber, hpending, fun hh => hnodup.1 (List.mem_map.2 ⟨x, hx, ?_⟩)⟩
    exact (Option.some.inj hh).symm
  · simp [allArrived, hcollecting]

theorem dispatchTo_walkTokens {e : Contribution} (r : Round) {w : UnitId} (idle : s.units[w].mode = .idle) :
    (walkTokens (s.dispatchTo e r w)).Perm ((e.cell, e.round, e.host) :: walkTokens s) := by
  have hset := unitTokens_set s.units w (startWalk e r)
  rw [show unitToken s.units[w] = [] by rw [unitToken, idle], List.append_nil] at hset
  exact (hset.append_right _).trans (by rw [List.append_assoc]; exact List.perm_middle)

theorem endWalk_walkTokens {w : UnitId} {walk : Walk} (window : Vector (Option Place) 4) (kind : ReportKind)
    (walking : s.units[w].mode = .walking walk) :
    (walkTokens (s.endWalk w walk window kind)).Perm (walkTokens s) := by
  have hset := unitTokens_set s.units w (endedUnit s.units[w] window)
  have hended : unitToken (endedUnit s.units[w] window) = [] := by
    simp only [unitToken, endedUnit]
    cases windowOutstanding window <;> rfl
  rw [hended, List.append_nil, show unitToken s.units[w]
    = [(walk.contribution.cell, walk.contribution.round, walk.contribution.host)] by rw [unitToken, walking]] at hset
  rw [walkTokens_eq, walkTokens_eq, endWalk_units]
  show (unitTokens (s.units.set w (endedUnit s.units[w] window)) ++ reportTokens (s.walkReports ++ [_])).Perm _
  rw [reportTokens, List.map_append, ← List.append_assoc]
  refine List.Perm.trans ?_ (hset.append_right _)
  rw [List.append_assoc, List.append_assoc]
  exact (List.perm_append_comm).append_left _

theorem change_roundLaw (change : Change i s u) (h : RoundLaw s) : RoundLaw u := by
  cases change with
  | opened c g participants settings repeats timeout destination free =>
    refine roundLaw_putCell h ?_
    have := (roundLaw_iff s).1 h c
    rw [free] at this
    rw [this.1, this.2]
    exact roundFits_fresh _ _ _ _ _ _ _
  | posted c r e round collecting participant fresh cell number =>
    subst cell
    have hfilter := fun d => (insertContribution_perm e s.contributions).filter fun x => decide (x.cell = d)
    refine roundLaw_at (c := e.cell) h ?_ fun d hd => ⟨set_other _ _ _ _ (Ne.symm hd), .refl _, ?_⟩
    · rw [show (((s.reserve e.host).putRound e.cell (r.post e.host)).enqueue e).cells[e.cell] = _ from set_same _ _ _]
      have := hfilter e.cell
      rw [List.filter_cons_of_pos (by simp)] at this
      exact roundFits_posted (roundLaw_round h round) collecting participant fresh number this
    · have := hfilter d
      rw [List.filter_cons_of_neg (by simpa using Ne.symm hd)] at this
      exact this.subperm
  | joined c r g round change =>
    exact roundLaw_putRound (s := s.reserve g) h (change.fits h round)
  | kept c r round change => exact roundLaw_putRound h (change.fits h round)
  | withdrawn g =>
    refine (roundLaw_iff _).2 fun c => ?_
    rw [show (s.cells.map (loseHost g))[c] = loseHost g s.cells[c] by simp]
    exact roundFits_loseHost g ((roundLaw_iff s).1 h c)
  | freed c r round held =>
    obtain ⟨-, htokens, hentries⟩ := roundLaw_quiet h round (.inr (.inr held))
    exact roundLaw_putCell h ⟨htokens, hentries⟩
  | @reported c r kind m q round collecting found change =>
    obtain ⟨-, -, hnil, hothers⟩ := roundLaw_report h round found (t := { s with
      walkReports := s.walkReports.eraseP (reportFor c kind)
      cells := s.cells.set c { number := s.cells[c].number, round := some q } }) rfl rfl
    refine roundLaw_at (c := c) h ?_ fun d hd => ⟨set_other _ _ _ _ (Ne.symm hd), hothers d hd, List.Subperm.refl _⟩
    rw [hnil, set_same]
    exact change.fits h round collecting found
  | @closed c r reports q round closing =>
    obtain ⟨hover, hnil, hnone, hothers⟩ := closing_over h round closing rfl rfl
      (t := { s with walkReports := reports })
    refine roundLaw_at (c := c) h ?_ fun d hd => ⟨set_other _ _ _ _ (Ne.symm hd), hothers d hd, List.Subperm.refl _⟩
    rw [set_same]
    refine roundFits_mono (roundFits_handedOn hover _) (tokens' := cellTokens { s with walkReports := reports } c) ?_ ?_
    · rw [hnil]
    · show (cellEntries s c).Subperm []
      rw [hnone]
  | @published c r m round publishing =>
    obtain ⟨hover, htokens, hentries⟩ := roundLaw_quiet h round (.inr (.inl publishing))
    refine roundLaw_at (c := c) h ?_ fun d hd => ⟨set_other _ _ _ _ (Ne.symm hd), .refl _, List.Subperm.refl _⟩
    rw [set_same]
    have hpublished : roundOver { r with publication := some m.status } := hover
    refine roundFits_mono (roundFits_disposed hpublished _) (tokens' := cellTokens s c) ?_ ?_
    · rw [htokens]
    · show (cellEntries s c).Subperm []
      rw [hentries]
  | removed leaves =>
    refine (roundLaw_iff _).2 fun c => roundFits_mono ((roundLaw_iff s).1 h c) (.refl _) ?_
    exact (List.filter_sublist.filter _).subperm
  | dispatched e r w first idle round noWalk =>
    obtain ⟨hhost, hnil⟩ := roundLaw_noWalk h round noWalk
    have htokens := cellTokens_cons (dispatchTo_walkTokens (e := e) r idle)
    have hleft := fun d => (eraseP_found_perm first).filter fun x => decide (x.cell = d)
    refine roundLaw_at (c := e.cell) h ?_ fun d hd => ⟨set_other _ _ _ _ (Ne.symm hd), ?_, ?_⟩
    · have hwalk := htokens e.cell
      have hentry := hleft e.cell
      rw [if_pos rfl, hnil] at hwalk
      rw [List.filter_cons_of_pos (by simp)] at hentry
      have hfits := roundLaw_round h round
      rw [hnil] at hfits
      rw [show (s.dispatchTo e r w).cells[e.cell] = _ from set_same _ _ _]
      exact roundFits_dispatched w hfits hwalk hentry
    · have := htokens d
      rwa [if_neg (Ne.symm hd)] at this
    · have := hleft d
      rw [List.filter_cons_of_neg (by simpa using Ne.symm hd)] at this
      exact this.subperm
  | walkEnded w walk walking =>
    exact roundLaw_walks h rfl rfl (endWalk_walkTokens (s := { s with answers := _ }) _ _ walking)
  | @walkWentOn w walk k a place working tallies window =>
    exact roundLaw_walks h rfl rfl ((unitTokens_same
      (unit := { s.units[w] with window := window, working := working, tallies := tallies }) rfl).append_right _)
  | placeDrained w k stopping =>
    refine roundLaw_walks h rfl rfl ((unitTokens_same (unit := drainedUnit s.units[w] k) ?_).append_right _)
    simp only [unitToken, stopping, drainedUnit]
    cases windowEmpty (s.units[w].window.set k none) <;> rfl
  | readIssued w walk g k =>
    exact roundLaw_walks h rfl rfl
      ((unitTokens_same (unit := issuedUnit s.units[w] s.strides walk g k) rfl).append_right _)
  | restarted => 
    refine (roundLaw_iff _).2 fun c => ?_
    rw [show (s.resetBlocks.cells[c]).round = none by simp [State.resetBlocks, State.reset, Cell.reset]]
    exact ⟨rfl, rfl⟩
  | _ => exact h

/-! ### Publication -/

/-- The destination to which the round of a PUBLISHING cell is published; none for a cell in any other state. -/
def publishesTo (cell : Cell) : Option (Option Addr) :=
  cell.round.bind fun r => if r.phase = .publishing then some r.destination else none

/-- The publication law by what each cell publishes. -/
theorem publicationLaw_iff (s : State) :
    PublicationLaw s ↔ (publishingCells s).Nodup
      ∧ ∀ c : CellId, (c ∈ publishingCells s ↔ publishesTo s.cells[c] ≠ none) ∧ publishesTo s.cells[c] ≠ some none := by
  have hone : ∀ cell : Cell, publishesTo cell ≠ none ↔ ∃ r, cell.round = some r ∧ r.phase = .publishing := by
    intro cell
    cases hround : cell.round <;> simp [publishesTo, hround]
  have htwo : ∀ cell : Cell,
      publishesTo cell ≠ some none ↔ ∀ r, cell.round = some r → r.phase = .publishing → r.destination ≠ none := by
    intro cell
    cases hround : cell.round <;> simp [publishesTo, hround]
  simp only [PublicationLaw, ← hone, htwo, forall_and]

/-- The publication law depends on what each cell publishes and on the cells being published. -/
theorem publicationLaw_same (h : PublicationLaw s) (cells : ∀ c : CellId, publishesTo t.cells[c] = publishesTo s.cells[c])
    (publishing : (publishingCells t).Perm (publishingCells s)) : PublicationLaw t := by
  rw [publicationLaw_iff] at h ⊢
  refine ⟨publishing.nodup_iff.2 h.1, fun c => ?_⟩
  rw [cells c, publishing.mem_iff]
  exact h.2 c

/-- A cell that publishes nothing new. -/
theorem publicationLaw_putCell {cell : Cell} (h : PublicationLaw s)
    (same : publishesTo cell = publishesTo s.cells[c]) : PublicationLaw (s.putCell c cell) := by
  refine publicationLaw_same h (fun d => ?_) (.refl _)
  by_cases hd : c = d
  · subst hd
    rw [show (s.putCell c cell).cells[c] = cell from set_same _ _ _, same]
  · rw [show (s.putCell c cell).cells[d] = s.cells[d] from set_other _ _ _ _ hd]

theorem publishesTo_none (number : RoundNumber) {r : Round} (phase : r.phase ≠ .publishing) :
    publishesTo { number := number, round := some r } = none := by
  simp [publishesTo, phase]

theorem publishesTo_round (round : s.cells[c].round = some r) :
    publishesTo s.cells[c] = if r.phase = .publishing then some r.destination else none := by
  rw [publishesTo, round]
  rfl

theorem RoundChange.publishesTo {q : Round} (change : RoundChange s c r q) (round : s.cells[c].round = some r) :
    publishesTo { number := number, round := some q } = publishesTo s.cells[c] := by
  rw [publishesTo_round round]
  cases change with
  | drains cause early collecting walk noEntry => 
    rw [publishesTo_none _ (by simp), if_neg (by simp [collecting])]
  | _ => rfl

theorem JoinChange.publishesTo {g : HostId} {q : Round} (change : JoinChange g r q) (round : s.cells[c].round = some r) :
    publishesTo { number := number, round := some q } = publishesTo s.cells[c] := by
  rw [publishesTo_round round]
  cases change <;> rfl

theorem ReportChange.publishesTo {m : WalkReport} {q : Round} (change : ReportChange s c m r q)
    (collecting : r.phase = .collecting) (round : s.cells[c].round = some r) :
    publishesTo { number := number, round := some q } = publishesTo s.cells[c] := by
  rw [publishesTo_round round, if_neg (by simp [collecting])]
  refine publishesTo_none _ ?_
  cases change with
  | faulted => simp
  | _ => simp [Round.clearWalk, Round.arrive, collecting]

theorem publishesTo_loseHost (h : HostId) (cell : Cell) : publishesTo (loseHost h cell) = publishesTo cell := by
  unfold loseHost
  split
  next => rfl
  next r hround =>
    split
    next held => simp [publishesTo, hround, held.1]
    · simp [publishesTo, hround]

theorem publishesTo_disposed (number : RoundNumber) (r : Round) : publishesTo (disposed number r) = none := by
  unfold disposed
  split
  · rfl
  split
  · exact publishesTo_none _ (by simp [newRound])
  · exact publishesTo_none _ (by simp)

/-- The round that closes was not being published. -/
theorem Closing.phase {reports : List WalkReport} {q : Round} (closing : Closing s c r reports q) :
    r.phase ≠ .publishing := by
  cases closing with
  | early _ _ collecting => simp [collecting]
  | absorbing absorbing => simp [absorbing]
  | clean collecting => simp [collecting]
  | cleanFault collecting => simp [collecting]
  | drained draining => simp [draining]

/-- The cell at the head composes a record of its own: the law keeps a destination for every queued cell. -/
theorem composeRecord_cell {cell : Cell} {destination : Addr} (publishes : publishesTo cell = some (some destination)) :
    (composeRecord c cell).map (·.cell) = some c := by
  cases hround : cell.round with
  | none => simp [publishesTo, hround] at publishes
  | some r =>
    simp only [publishesTo, hround, Option.bind_some, Option.ite_none_right_eq_some, Option.some.injEq] at publishes
    simp [composeRecord, hround, publishes.2]

/-- Taking the head of the queue moves its cell to the Publisher. -/
theorem publishingCells_takeHead
    (head : ∀ c rest, s.publicationQueue = c :: rest → ∃ destination, publishesTo s.cells[c] = some (some destination)) :
    (publishingCells s.takeHead).Perm (publishingCells s) := by
  unfold State.takeHead
  split
  next c rest idle queued =>
    obtain ⟨destination, hpublishes⟩ := head c rest queued
    simp only [publishingCells, idle, queued, composeRecord_cell hpublishes, Option.map_none, Option.toList_none,
      Option.toList_some, List.append_nil, List.append_assoc]
    exact List.perm_middle
  · exact .refl _

/-- Every cell at the head of the queue of a state that meets the law has a destination. -/
theorem publicationLaw_destination (h : PublicationLaw s) (publishing : c ∈ publishingCells s) :
    ∃ destination, publishesTo s.cells[c] = some (some destination) := by
  obtain ⟨hin, hsome⟩ := ((publicationLaw_iff s).1 h).2 c
  obtain ⟨target, htarget⟩ := Option.ne_none_iff_exists'.1 (hin.1 publishing)
  cases target with
  | none => exact absurd htarget hsome
  | some destination => exact ⟨destination, htarget⟩

/-- A cell that was not being published is queued with a round that has a destination. -/
theorem publicationLaw_queued {cells : Vector Cell 64} {destination : Addr} (h : PublicationLaw s)
    (before : publishesTo s.cells[c] = none) (after : publishesTo cells[c] = some (some destination))
    (others : ∀ d, d ≠ c → cells[d] = s.cells[d])
    (t_eq : t = State.takeHead { s with cells := cells, publicationQueue := s.publicationQueue ++ [c] }) :
    PublicationLaw t := by
  let v : State := { s with cells := cells, publicationQueue := s.publicationQueue ++ [c] }
  obtain ⟨hnodup, hcells⟩ := (publicationLaw_iff s).1 h
  have hnot : c ∉ publishingCells s := fun hc => (hcells c).1.1 hc before
  have hqueue : (publishingCells v).Perm (c :: publishingCells s) := by
    simp only [publishingCells, v, List.append_assoc, List.singleton_append]
    exact List.perm_middle
  have hhead : ∀ d rest, v.publicationQueue = d :: rest → ∃ destination, publishesTo v.cells[d] = some (some destination) := by
    intro d rest hd
    by_cases hdc : d = c
    · exact ⟨destination, hdc ▸ after⟩
    · rw [show v.cells[d] = s.cells[d] from others d hdc]
      refine publicationLaw_destination h ?_
      have hmem : d ∈ s.publicationQueue ++ [c] := by
        rw [show s.publicationQueue ++ [c] = d :: rest from hd]
        exact List.mem_cons_self ..
      have : d ∈ s.publicationQueue := by simpa [hdc] using hmem
      simp [publishingCells, this]
  have hperm := (publishingCells_takeHead hhead).trans hqueue
  have hsame : t.cells = cells := by
    rw [t_eq]
    unfold State.takeHead
    split <;> rfl
  refine (publicationLaw_iff t).2 ⟨?_, fun d => ?_⟩
  · rw [t_eq]
    exact hperm.nodup_iff.2 (List.nodup_cons.2 ⟨hnot, hnodup⟩)
  · rw [hsame, show d ∈ publishingCells t ↔ d ∈ c :: publishingCells s from t_eq ▸ hperm.mem_iff, List.mem_cons]
    by_cases hdc : d = c
    · subst hdc
      rw [after]
      simp
    · rw [others d hdc]
      simpa [hdc] using hcells d

/-- A hand-off with a destination queues the cell. -/
theorem handOn_destination {destination : Addr} (s : State) (c : CellId) {q : Round}
    (hd : q.destination = some destination) :
    s.handOn c q = State.takeHead
      { s with
        cells := s.cells.set c { number := s.cells[c].number, round := some { q with phase := .publishing } }
        publicationQueue := s.publicationQueue ++ [c] } := by
  unfold State.handOn
  rw [hd]
  rfl

theorem publicationLaw_handOn {q : Round} (h : PublicationLaw s) (before : publishesTo s.cells[c] = none) :
    PublicationLaw (s.handOn c q) := by
  cases hd : q.destination with
  | none =>
    rw [handOn_frame, cellHandedOn, if_pos hd]
    rw [show (s.handOn c q).publisher = s.publisher by rw [((handOn_spec s c q).2 hd).1]]
    rw [show (s.handOn c q).publicationQueue = s.publicationQueue by rw [((handOn_spec s c q).2 hd).1]]
    exact publicationLaw_putCell h ((publishesTo_disposed _ _).trans before.symm)
  | some destination =>
    refine publicationLaw_queued (destination := destination) h before ?_ (fun d hdc => ?_) (handOn_destination s c hd)
    · rw [set_same]
      simp [publishesTo, hd]
    · exact set_other _ _ _ _ (Ne.symm hdc)

/-- The report that ends a publication is that of its cell alone. -/
theorem publicationLaw_published {cell : Cell} {m : PublicationReport} (h : PublicationLaw s)
    (found : s.publicationReports.find? (publicationFor c) = some m) (after : publishesTo cell = none) :
    PublicationLaw
      { s with
        publicationReports := s.publicationReports.eraseP (publicationFor c), cells := s.cells.set c cell } := by
  obtain ⟨hnodup, hcells⟩ := (publicationLaw_iff s).1 h
  have hm : m.cell = c := by simpa [publicationFor] using List.find?_some found
  have hperm : (c :: publishingCells
      { s with
        publicationReports := s.publicationReports.eraseP (publicationFor c), cells := s.cells.set c cell }).Perm
      (publishingCells s) := by
    have := (eraseP_found_perm found).map (·.cell)
    rw [List.map_cons, hm] at this
    exact List.perm_middle.symm.trans (this.append_left _)
  have hboth := List.nodup_cons.1 (hperm.nodup_iff.2 hnodup)
  refine (publicationLaw_iff _).2 ⟨hboth.2, fun d => ?_⟩
  by_cases hd : c = d
  · subst hd
    rw [set_same, after]
    simpa using hboth.1
  · rw [set_other _ _ _ _ hd]
    have hmem := hperm.mem_iff (a := d)
    rw [List.mem_cons] at hmem
    simp only [Ne.symm hd, false_or] at hmem
    rw [hmem]
    exact hcells d

theorem change_publicationLaw (change : Change i s u) (h : PublicationLaw s) : PublicationLaw u := by
  cases change with
  | opened c g participants settings repeats timeout destination free =>
    refine publicationLaw_putCell h ?_
    rw [publishesTo_none _ (by simp [freshRound]), publishesTo, free]
    rfl
  | posted c r e round collecting =>
    refine publicationLaw_putCell (s := s) (c := c) h ?_
    rw [publishesTo_none _ (by simp [Round.post, collecting]), publishesTo_round round, if_neg (by simp [collecting])]
  | joined c r g round change => exact publicationLaw_putCell (s := s) h (change.publishesTo round)
  | kept c r round change => exact publicationLaw_putCell h (change.publishesTo round)
  | withdrawn g =>
    refine publicationLaw_same h (fun c => ?_) (.refl _)
    rw [show (s.cells.map (loseHost g))[c] = loseHost g s.cells[c] by simp]
    exact publishesTo_loseHost g _
  | freed c r round held =>
    refine publicationLaw_putCell h ?_
    rw [publishesTo_round round, if_neg (by simp [held])]
    rfl
  | reported c r round collecting found change =>
    exact publicationLaw_putCell (s := s) h (change.publishesTo collecting round)
  | @closed c r reports q round closing =>
    have := publicationLaw_handOn (q := q) h ((publishesTo_round round).trans (if_neg closing.phase))
    rw [handOn_frame] at this
    exact this
  | published c r round publishing found =>
    exact publicationLaw_published h found (publishesTo_disposed _ _)
  | dispatched e r w first idle round =>
    refine publicationLaw_putCell (s := s) (c := e.cell) h ?_
    rw [publishesTo_round round]
    rfl
  | writeIssued record current =>
    refine publicationLaw_same h (fun _ => rfl) ?_
    simp only [publishingCells, State.issueWrite, State.issue, current]
    exact .refl _
  | secondOffered record row current =>
    refine publicationLaw_same h (fun _ => rfl) ?_
    simp only [publishingCells, current]
    exact .refl _
  | writeReported record status current =>
    let v : State := { s with
      publisher := none, publicationReports := s.publicationReports ++ [{ cell := record.cell, status := status }] }
    have hsame : (publishingCells v).Perm (publishingCells s) := by
      simp only [publishingCells, v, current, List.map_append, Option.map_none, Option.map_some, Option.toList_none,
        Option.toList_some, List.append_nil, List.append_assoc]
      exact (List.perm_append_comm).append_left _
    have hreports : v.takeHead.publicationReports = v.publicationReports := by
      unfold State.takeHead
      split <;> rfl
    refine publicationLaw_same h (fun _ => rfl) (List.Perm.trans ?_
      ((publishingCells_takeHead (s := v) fun c rest hc => ?_).trans hsame))
    · simp only [publishingCells, hreports]
      exact .refl _
    show ∃ destination, publishesTo s.cells[c] = some (some destination)
    refine publicationLaw_destination h (hsame.subset ?_)
    simp [publishingCells, show v.publicationQueue = c :: rest from hc]
  | restarted =>
    refine (publicationLaw_iff _).2 ⟨List.nodup_nil, fun c => ?_⟩
    simp [State.resetBlocks, State.reset, publishingCells, publishesTo, Cell.reset]
  | _ => exact h

/-- Settles O57: every change keeps the round law and the publication law. -/
theorem stepKeepsTheRoundLaws : Obligations.StepKeepsTheRoundLaws := by
  intro s t next
  exact ⟨fun h => step_keeps next change_roundLaw fun _ => h, fun h => step_keeps next change_publicationLaw fun _ => h⟩

end Sys2Proof.Machine
end

section
/-! Proofs that a state which meets the laws never faults: every report and answer on its way has a receiver that awaits
it. -/

namespace Sys2Proof.Machine

open Sys2Proof.Safety

variable {s : State} {f : Fault}

/-! ### The faulting rows -/

/-- A report on its way finds its cell in COLLECTING or DRAINING (law L1). -/
theorem takeReport_ne_fault (h : RoundLaw s) (c : CellId) (kind : ReportKind → Bool) : takeReport s c kind ≠ .fault f := by
  unfold takeReport
  split
  · simp
  next m found =>
    have hm := List.find?_some found
    simp only [reportFor, Bool.and_eq_true, decide_eq_true_eq] at hm
    have htoken : reportToken m ∈ cellTokens s c := by
      refine List.mem_filter.2 ⟨?_, decide_eq_true hm.1⟩
      exact List.mem_append_right _ (List.mem_map.2 ⟨m, List.mem_of_find?_eq_some found, rfl⟩)
    dsimp only
    split
    next hnone =>
      have := (roundLaw_iff s).1 h c
      rw [hnone] at this
      rw [this.1] at htoken
      cases htoken
    next r round =>
      obtain ⟨-, ⟨-, htokens, -, hphase, -⟩, -⟩ := roundLaw_round h round
      have hflying : r.inFlightHost ≠ none := fun hnone => by
        rw [htokens, hnone] at htoken
        cases htoken
      rcases hphase hflying with hp | hp <;> simp [hp]

/-- A publication-done report on its way finds its cell PUBLISHING. -/
theorem execPublicationDone_ne_fault (h : PublicationLaw s) (c : CellId) : execPublicationDone c s ≠ .fault f := by
  unfold execPublicationDone
  split
  · simp
  next m found =>
    have hm : m.cell = c := by simpa [publicationFor] using List.find?_some found
    have hpublishing : c ∈ publishingCells s :=
      List.mem_append_right _ (List.mem_map.2 ⟨m, List.mem_of_find?_eq_some found, hm⟩)
    obtain ⟨r, round, hphase⟩ := (h.2.1 c).1 hpublishing
    rw [round]
    simp [hphase]

/-- An answer on its way to a place finds the place waiting, and a unit that is not IDLE. -/
theorem execWalkUnitAnswer_ne_fault (window : WindowLaw s) (answers : AnswerLaw s) (w : UnitId) (k : PlaceId) :
    execWalkUnitAnswer w k s ≠ .fault f := by
  unfold execWalkUnitAnswer
  cases hanswer : s.answers[placeSlot w k] with
  | none => simp
  | some a =>
    have hwaits : placeOutstanding s.units[w].window[k] = true := ((answers.1 w k).1).2 (.inr (by simp [hanswer]))
    cases hplace : s.units[w].window[k] with
    | none =>
      rw [hplace] at hwaits
      cases hwaits
    | some place =>
      cases hmode : s.units[w].mode with
      | idle =>
        have := window w
        unfold windowSound at this
        rw [hmode] at this
        cases (this k).symm.trans hplace
      | walking walk => simp
      | stopping => simp

/-- An answer on its way to the Publisher finds it waiting. -/
theorem execPublisherAnswer_ne_fault (answers : AnswerLaw s) : execPublisherAnswer s ≠ .fault f := by
  unfold execPublisherAnswer
  cases hanswer : s.answers[publisherSlot] with
  | none => simp
  | some a =>
    have hwaits := (answers.2.1).2 (.inr (by simp [hanswer]))
    unfold publisherWaits at hwaits
    cases hpublisher : s.publisher with
    | none =>
      rw [hpublisher] at hwaits
      cases hwaits
    | some record =>
      rw [hpublisher] at hwaits
      simp only [hwaits, if_true]
      simp

/-! ### The other rows -/

theorem ownerTakes_ne_fault (s : State) (h : HostId) (code : Nat) (act : List Word → State) :
    ownerTakes s h code act ≠ .fault f := by
  unfold ownerTakes
  split <;> simp

theorem hostAccess_ne_fault (s : State) (h : HostId) (after : State) : hostAccess s h after ≠ .fault f := by
  unfold hostAccess
  split <;> simp

theorem completed_ne_fault (t : State) : completed t ≠ .fault f := nofun

theorem refused_or_completed (p : Prop) [Decidable p] (reason : Refusal) (t : State) :
    (if p then .refused reason else completed t) ≠ .fault f := by
  split <;> nofun

theorem completed_or_refused (p : Prop) [Decidable p] (reason : Refusal) (t : State) :
    (if p then completed t else .refused reason) ≠ .fault f := by
  split <;> nofun

theorem refused_unless_timed (p q : Prop) [Decidable p] [Decidable q] (t : State) :
    (if p then .refused .noTick else if q then completed t else .refused .noTick) ≠ .fault f := by
  split
  · nofun
  · exact completed_or_refused q _ t

theorem execCommandDecision_ne_fault (s : State) (h : HostId) : execCommandDecision h s ≠ .fault f := by
  unfold execCommandDecision
  split <;> nofun

theorem execReadGrantTaken_ne_fault (s : State) (w : UnitId) : execReadGrantTaken w s ≠ .fault f := by
  unfold execReadGrantTaken
  split
  · nofun
  split
  · split <;> nofun
  · nofun

theorem execWriteGrantTaken_ne_fault (s : State) : execWriteGrantTaken s ≠ .fault f := by
  unfold execWriteGrantTaken
  split
  · nofun
  split
  · split
    · split <;> nofun
    · nofun
  · nofun

theorem execMemoryResponse_ne_fault (s : State) (tag : BitVec 10) (answer : MemAnswer) :
    execMemoryResponse tag answer s ≠ .fault f := by
  unfold execMemoryResponse
  split <;> nofun

/-- No row faults in a state that meets the laws. -/
theorem exec_ne_fault (window : WindowLaw s) (answers : AnswerLaw s) (rounds : RoundLaw s)
    (publication : PublicationLaw s) (i : Instr) : exec i s ≠ .fault f := by
  cases i with
  | openCell h => exact ownerTakes_ne_fault s h 1 _
  | contribute h => exact ownerTakes_ne_fault s h 2 _
  | wait h => exact ownerTakes_ne_fault s h 3 _
  | abort h => exact ownerTakes_ne_fault s h 4 _
  | release h => exact ownerTakes_ne_fault s h 5 _
  | query h => exact ownerTakes_ne_fault s h 6 _
  | setStride h => exact ownerTakes_ne_fault s h 7 _
  | readStride h => exact ownerTakes_ne_fault s h 8 _
  | unknownCommand h word => exact hostAccess_ne_fault s h _
  | ignoredWrite h location word => exact hostAccess_ne_fault s h _
  | responseRead h => exact hostAccess_ne_fault s h _
  | portReset h word => exact hostAccess_ne_fault s h _
  | discard h word => exact hostAccess_ne_fault s h _
  | ack h word => exact hostAccess_ne_fault s h _
  | setEnables h word => exact hostAccess_ne_fault s h _
  | selectView h word => exact hostAccess_ne_fault s h _
  | commandWrite h word => exact hostAccess_ne_fault s h _
  | walkEndDone c => exact takeReport_ne_fault rounds c isDone
  | walkEndFault c => exact takeReport_ne_fault rounds c isFault
  | walkEndCut c => exact takeReport_ne_fault rounds c isCut
  | publicationDone c => exact execPublicationDone_ne_fault publication c
  | walkUnitAnswer w k => exact execWalkUnitAnswer_ne_fault window answers w k
  | publisherAnswer => exact execPublisherAnswer_ne_fault answers
  | commandDecision h => exact execCommandDecision_ne_fault s h
  | resetLineAsserted h => exact refused_or_completed _ _ _
  | resetLineReleased h => exact completed_or_refused _ _ _
  | acknowledgement h => exact refused_or_completed _ _ _
  | lossNotice h => exact refused_or_completed _ _ _
  | removal h => exact refused_or_completed _ _ _
  | cut w h => exact refused_or_completed _ _ _
  | cancel w c round => exact completed_or_refused _ _ _
  | dispatch => exact completed_ne_fault _
  | arbiterGrant => exact completed_ne_fault _
  | readGrantTaken w => exact execReadGrantTaken_ne_fault s w
  | writeGrantTaken => exact execWriteGrantTaken_ne_fault s
  | memoryResponse tag answer => exact execMemoryResponse_ne_fault s tag answer
  | responseTimerTick k => exact refused_or_completed _ _ _
  | responseTimeout k => exact refused_unless_timed _ _ _
  | tick => exact refused_or_completed _ _ _
  | deadlineTimerTick c => exact refused_or_completed _ _ _
  | deadlineExpiry c => exact refused_unless_timed _ _ _
  | deviceReset => exact refused_or_completed _ _ _
  | deviceResetRelease straps => exact completed_or_refused _ _ _
  | suppliesComeUp => exact completed_ne_fault _

/-- Settles O59: a clock period does not fault, and under the laws no row does. -/
theorem soundStatesNeverFault : Obligations.SoundStatesNeverFault := by
  intro s f window answers rounds publication
  unfold step
  split
  · exact completed_ne_fault _
  next i rest _ => exact exec_ne_fault (s := { s with pending := rest }) window answers rounds publication i

end Sys2Proof.Machine
end

section
/-! Proof that every step keeps a reservation for every membership: the memberships of a host over all cells, how notices
use up reservations, then the law change by change. -/

namespace Sys2Proof.Machine

open Sys2Proof.Safety

variable {i : Instr} {s t u : State} {c : CellId} {number : RoundNumber} {r : Round}

/-! ### Memberships over all cells -/

/-- The memberships of a host on a table of cells. -/
def membershipsOn (cells : Vector Cell 64) (h : HostId) : Nat :=
  (cellOrder.map fun c => memberships h cells[c]).sum

theorem membershipCount_eq (s : State) (h : HostId) : membershipCount s h = membershipsOn s.cells h := rfl

/-- Writing a cell exchanges its memberships. -/
theorem membershipsOn_set (cells : Vector Cell 64) (c : CellId) (cell : Cell) (h : HostId) :
    membershipsOn (cells.set c cell) h + memberships h cells[c] = membershipsOn cells h + memberships h cell := by
  have hsum : ∀ table : Vector Cell 64, membershipsOn table h
      = memberships h table[c] + ∑ d ∈ Finset.univ.erase c, memberships h table[d] := by
    intro table
    rw [Finset.add_sum_erase _ (fun d : CellId => memberships h table[d]) (Finset.mem_univ c), Fin.sum_univ_def]
    rfl
  have hothers : ∑ d ∈ Finset.univ.erase c, memberships h (cells.set c cell)[d]
      = ∑ d ∈ Finset.univ.erase c, memberships h cells[d] :=
    Finset.sum_congr rfl fun d hd => by rw [set_other _ _ _ _ (Finset.ne_of_mem_erase hd).symm]
  rw [hsum, hsum cells, hothers, set_same]
  omega

theorem membershipsOn_same {cells : Vector Cell 64} {cell : Cell} {h : HostId}
    (same : memberships h cell = memberships h cells[c]) : membershipsOn (cells.set c cell) h = membershipsOn cells h := by
  have := membershipsOn_set cells c cell h
  omega

/-! ### The law of one host -/

/-- The membership law of one host: its port, its queue and the number of its memberships. -/
def hostReserved (p : HostPort) (reservations memberships : Nat) : Prop :=
  if p.awaited = 0 then reservations = memberships
  else reservations = 0 ∧ (p.lossNotices = 0 → memberships = 0)

theorem membershipLaw_iff (s : State) :
    MembershipLaw s ↔ (∀ h : HostId, hostReserved s.ports[h] s.queues[h].reservations (membershipsOn s.cells h))
      ∧ ∀ (c : CellId) (r : Round), s.cells[c].round = some r → notifySound r := Iff.rfl

/-- A port that keeps its acknowledgements and loss notices. -/
theorem hostReserved_port {p p' : HostPort} {reservations memberships : Nat}
    (h : hostReserved p reservations memberships) (awaited : p'.awaited = p.awaited)
    (lossNotices : p'.lossNotices = p.lossNotices) : hostReserved p' reservations memberships := by
  unfold hostReserved
  rw [awaited, lossNotices]
  exact h

/-- The last acknowledgement finds no membership and no reservation left. -/
theorem hostReserved_acknowledge {p : HostPort} {reservations memberships : Nat}
    (h : hostReserved p reservations memberships) (notices : noticesCounted p) (returned : p.acksReturned ≠ 0) :
    hostReserved p.acknowledge reservations memberships := by
  obtain ⟨hcount, -⟩ := notices
  unfold hostReserved at h ⊢
  rw [if_neg (by omega)] at h
  obtain ⟨hnone, hloss⟩ := h
  show if p.awaited - 1 = 0 then _ else reservations = 0 ∧ (p.lossNotices = 0 → _)
  split
  · rw [hnone, hloss (by omega)]
  · exact ⟨hnone, hloss⟩

/-- A host without memberships. -/
theorem hostReserved_gone {p p' : HostPort} {reservations : Nat} (h : hostReserved p reservations 0)
    (awaited : p'.awaited = p.awaited) : hostReserved p' reservations 0 := by
  unfold hostReserved at h ⊢
  rw [awaited]
  split at h
  next heq =>
    rw [if_pos heq]
    exact h
  next hne => rw [if_neg hne]; exact ⟨h.1, fun _ => rfl⟩

/-- The memberships of a host go while its loss notice is on its way. -/
theorem hostReserved_lost {p : HostPort} {reservations memberships : Nat} (h : hostReserved p reservations memberships)
    (notices : noticesCounted p) (sent : p.lossNotices ≠ 0) : hostReserved p reservations 0 := by
  obtain ⟨hcount, -⟩ := notices
  unfold hostReserved at h ⊢
  rw [if_neg (by omega)] at h ⊢
  exact ⟨h.1, fun _ => rfl⟩

theorem hostReserved_portChange {p p' : HostPort} {reservations memberships : Nat} (change : PortChange p p')
    (h : hostReserved p reservations memberships) (notices : noticesCounted p) :
    hostReserved p' reservations memberships := by
  cases change with
  | acknowledged returned => exact hostReserved_acknowledge h notices returned
  | written word =>
    refine hostReserved_port h ?_ ?_ <;>
    · unfold HostPort.writeCommand HostPort.complete
      repeat' split
      all_goals rfl
  | _ => exact h

/-- A port reset leaves no reservation, and a loss notice on its way. -/
theorem hostReserved_reset {p : HostPort} {reservations memberships : Nat}
    (h : hostReserved p reservations memberships) : hostReserved p.resetRecord 0 memberships := by
  unfold hostReserved at h ⊢
  unfold HostPort.resetRecord HostPort.sendNotices
  split
  next many =>
    dsimp only at many
    rw [if_neg (by omega)] at h
    show if p.awaited = 0 then _ else _
    rw [if_neg (by omega)]
    exact ⟨rfl, h.2⟩
  · simp

/-- One membership more, with its reservation, while no acknowledgement is awaited. -/
theorem hostReserved_more {p : HostPort} {reservations memberships : Nat}
    (h : hostReserved p reservations memberships) (awaited : p.awaited = 0) :
    hostReserved p (reservations + 1) (memberships + 1) := by
  unfold hostReserved at h ⊢
  rw [if_pos awaited] at h ⊢
  rw [h]

/-- Memberships withdrawn with their reservations. -/
theorem hostReserved_less {p : HostPort} {reservations memberships gone : Nat}
    (h : hostReserved p reservations memberships) : hostReserved p (reservations - gone) (memberships - gone) := by
  unfold hostReserved at h ⊢
  split
  next hawaited =>
    rw [if_pos hawaited] at h
    rw [h]
  next hawaited =>
    rw [if_neg hawaited] at h
    exact ⟨by omega, fun hloss => by have := h.2 hloss; omega⟩

/-! ### Notices -/

theorem reservations_queueAfter (p : HostPort) (q : CompletionQueue) (e : Entry) :
    (queueAfter p q e).reservations = q.reservations - 1 := by
  unfold queueAfter
  split
  next hnone => omega
  · rfl

/-- Each notice uses up one reservation. -/
theorem reservations_queueNoticed (c : CellId) (number : RoundNumber) (r : Round) (h : HostId) (p : HostPort)
    (q : CompletionQueue) :
    (queueNoticed c number r h p q).reservations = q.reservations - (noticesOf c number r h).length := by
  unfold queueNoticed
  generalize noticesOf c number r h = notices
  induction notices generalizing q with
  | nil => rfl
  | cons e rest ih =>
    rw [List.foldl_cons, ih, reservations_queueAfter, List.length_cons]
    omega

/-- There is one notice for each membership. -/
theorem noticesOf_length (c : CellId) (number : RoundNumber) (r : Round) (h : HostId) :
    (noticesOf c number r h).length = bit (member r.contributionNotices h) + bit (member r.waitNotices h) := by
  rw [noticesOf_eq]
  cases member r.contributionNotices h <;> cases member r.waitNotices h <;> rfl

theorem memberships_round (h : HostId) (number : RoundNumber) (r : Round) :
    memberships h { number := number, round := some r }
      = bit (member r.contributionNotices h) + bit (member r.waitNotices h) := rfl

/-! ### Changes of one cell -/

/-- A cell whose memberships stay. -/
theorem membershipLaw_putCell {cell : Cell} (h : MembershipLaw s)
    (same : ∀ g, memberships g cell = memberships g s.cells[c]) (sound : ∀ r, cell.round = some r → notifySound r) :
    MembershipLaw (s.putCell c cell) := by
  obtain ⟨hhosts, hcells⟩ := (membershipLaw_iff s).1 h
  refine (membershipLaw_iff _).2 ⟨fun g => ?_, ?_⟩
  · show hostReserved s.ports[g] s.queues[g].reservations (membershipsOn (s.cells.set c cell) g)
    rw [membershipsOn_same (same g)]
    exact hhosts g
  · exact forall_set (P := fun (_ : CellId) (cell : Cell) => ∀ r, cell.round = some r → notifySound r) sound hcells

/-- A host with no acknowledgement awaited joins one of the notify list's sets, with a reservation. -/
theorem membershipLaw_joined {cell : Cell} {g : HostId} (h : MembershipLaw s) (awaited : s.ports[g].awaited = 0)
    (more : memberships g cell = memberships g s.cells[c] + 1)
    (others : ∀ g', g' ≠ g → memberships g' cell = memberships g' s.cells[c])
    (sound : ∀ r, cell.round = some r → notifySound r) : MembershipLaw ((s.reserve g).putCell c cell) := by
  obtain ⟨hhosts, hcells⟩ := (membershipLaw_iff s).1 h
  refine (membershipLaw_iff _).2 ⟨fun g' => ?_, ?_⟩
  · have hset := membershipsOn_set s.cells c cell g'
    show hostReserved s.ports[g'] (s.reserve g).queues[g'].reservations (membershipsOn (s.cells.set c cell) g')
    by_cases hg : g' = g
    · subst hg
      rw [show (s.reserve g').queues[g'].reservations = s.queues[g'].reservations + 1 by
          rw [reserve_eq, set_same]; rfl,
        show membershipsOn (s.cells.set c cell) g' = membershipsOn s.cells g' + 1 by omega]
      exact hostReserved_more (hhosts g') awaited
    · have hsame := others g' hg
      rw [show (s.reserve g).queues[g'] = s.queues[g'] by rw [reserve_eq, set_other _ _ _ _ (Ne.symm hg)],
        show membershipsOn (s.cells.set c cell) g' = membershipsOn s.cells g' by omega]
      exact hhosts g'
  · exact forall_set (P := fun (_ : CellId) (cell : Cell) => ∀ r, cell.round = some r → notifySound r) sound hcells

/-- The notices of a round are posted and its cell keeps no membership. -/
theorem membershipLaw_noticed {cell : Cell} {q : Round} (h : MembershipLaw s)
    (before : ∀ g, memberships g s.cells[c] = bit (member q.contributionNotices g) + bit (member q.waitNotices g))
    (after : ∀ g, memberships g cell = 0) (sound : ∀ r, cell.round = some r → notifySound r) :
    MembershipLaw { s with cells := s.cells.set c cell, queues := (s.postNotices c number q).queues } := by
  obtain ⟨hhosts, hcells⟩ := (membershipLaw_iff s).1 h
  refine (membershipLaw_iff _).2 ⟨fun g => ?_, ?_⟩
  · have hset := membershipsOn_set s.cells c cell g
    rw [after g] at hset
    show hostReserved s.ports[g] (s.postNotices c number q).queues[g].reservations (membershipsOn (s.cells.set c cell) g)
    rw [(postNotices_spec s c number q).2 g, reservations_queueNoticed, noticesOf_length, ← before g,
      show membershipsOn (s.cells.set c cell) g = membershipsOn s.cells g - memberships g s.cells[c] by omega]
    exact hostReserved_less (hhosts g)
  · exact forall_set (P := fun (_ : CellId) (cell : Cell) => ∀ r, cell.round = some r → notifySound r) sound hcells

/-! ### Rounds -/

theorem notifySound_empty (contribution : r.contributionNotices = 0) (wait : r.waitNotices = 0) : notifySound r := by
  refine ⟨fun g hg => ?_, fun _ => ⟨contribution, wait⟩⟩
  rw [contribution, member_zero] at hg
  cases hg

theorem memberships_held {cell : Cell} (round : cell.round = some r) (sound : notifySound r) (held : r.phase = .held)
    (g : HostId) : memberships g cell = 0 := by
  obtain ⟨hcontribution, hwait⟩ := sound.2 held
  rw [memberships, round]
  simp only [hcontribution, hwait, member_zero]
  rfl

theorem disposed_notify (number : RoundNumber) (r : Round) :
    (∀ g, memberships g (disposed number r) = 0) ∧ ∀ q, (disposed number r).round = some q → notifySound q := by
  have hempty : ∀ (number : RoundNumber) (q : Round), q.contributionNotices = 0 → q.waitNotices = 0 →
      (∀ g, memberships g { number := number, round := some q } = 0) := by
    intro number q hc hw g
    rw [memberships_round, hc, hw, member_zero]
    rfl
  unfold disposed
  split
  · exact ⟨fun _ => rfl, fun _ hq => nomatch hq⟩
  split
  · refine ⟨hempty _ _ rfl rfl, fun q hq => ?_⟩
    cases hq
    exact notifySound_empty rfl rfl
  · refine ⟨hempty _ _ rfl rfl, fun q hq => ?_⟩
    cases hq
    exact notifySound_empty rfl rfl

theorem leave_empty (h : HostId) : leave 0 h = 0 :=
  hostSet_ext fun g => by rw [member_leave, member_zero, Bool.false_and]

theorem notifySound_same {q : Round} (sound : notifySound r) (contribution : q.contributionNotices = r.contributionNotices)
    (posted : q.posted = r.posted) (phase : q.phase ≠ .held) : notifySound q := by
  refine ⟨fun g => ?_, fun hp => absurd hp phase⟩
  rw [contribution, posted]
  exact sound.1 g

theorem settlePending_notify (r : Round) (status : ContributionStatus) :
    (r.settlePending status).contributionNotices = r.contributionNotices
      ∧ (r.settlePending status).waitNotices = r.waitNotices ∧ (r.settlePending status).posted = r.posted := by
  rw [settlePending_eq]
  exact ⟨rfl, rfl, rfl⟩

/-- The changes of a round that stays in its cell keep the notify list. -/
theorem RoundChange.notify {q : Round} (change : RoundChange s c r q) (sound : notifySound r) :
    q.contributionNotices = r.contributionNotices ∧ q.waitNotices = r.waitNotices ∧ notifySound q := by
  cases change with
  | drains cause early collecting =>
    obtain ⟨hc, hw, hp⟩ := settlePending_notify { r with outcome := some cause, deadline := 0 } .dropped
    exact ⟨hc, hw, notifySound_same sound hc hp (by simp)⟩
  | _ => exact ⟨rfl, rfl, sound⟩

theorem ReportChange.notify {m : WalkReport} {q : Round} (change : ReportChange s c m r q)
    (sound : notifySound r) :
    q.contributionNotices = r.contributionNotices ∧ q.waitNotices = r.waitNotices ∧ notifySound q := by
  cases change with
  | faulted kind index address noEntry =>
    obtain ⟨hc, hw, hp⟩ := settlePending_notify
      (({ r with
          outcome := some .faulted
          fault := some
            { kind := kind, element := some { host := m.host, index := index, address := address } } } :
          Round).arrive m.host .faulting).clearWalk .absorbed
    exact ⟨hc, hw, notifySound_same sound hc hp (by simp)⟩
  | committed => exact ⟨rfl, rfl, sound⟩
  | cutAside => exact ⟨rfl, rfl, sound⟩

theorem Closing.notify {reports : List WalkReport} {q : Round} (closing : Closing s c r reports q) :
    q.contributionNotices = r.contributionNotices ∧ q.waitNotices = r.waitNotices ∧ q.posted = r.posted := by
  cases closing with
  | early cause =>
    have hsettled := settlePending_notify { r with outcome := some cause, deadline := 0 } .dropped
    generalize ({ r with outcome := some cause, deadline := 0 } : Round).settlePending .dropped = settled at hsettled ⊢
    exact hsettled
  | _ => exact ⟨rfl, rfl, rfl⟩

theorem memberships_loseHost_other {h g : HostId} (other : g ≠ h) {cell : Cell}
    (sound : ∀ r, cell.round = some r → notifySound r) : memberships g (loseHost h cell) = memberships g cell := by
  unfold loseHost
  split
  next => rfl
  next r hround =>
    split
    next held =>
      rw [memberships_held hround (sound r hround) held.1]
      rfl
    · rw [memberships_round, member_leave, member_leave]
      simp [memberships, hround, other]

theorem notifySound_loseHost {h : HostId} {cell : Cell} (sound : ∀ r, cell.round = some r → notifySound r) (q : Round)
    (round : (loseHost h cell).round = some q) : notifySound q := by
  unfold loseHost at round
  split at round
  next hnone => exact sound q round
  next r hround =>
    obtain ⟨hposted, hheld⟩ := sound r hround
    split at round
    · cases round
    · cases round
      refine ⟨fun g hg => ?_, fun hp => ?_⟩
      · rw [member_leave, Bool.and_eq_true] at hg
        exact hposted g hg.1
      · obtain ⟨hc, hw⟩ := hheld hp
        dsimp only
        rw [hc, hw]
        exact ⟨leave_empty h, leave_empty h⟩

/-- A host that has not posted has no contribution notice. -/
theorem notJoined {g : HostId} (sound : notifySound r) (fresh : member r.posted g = false) :
    member r.contributionNotices g = false := by
  by_contra hjoined
  rw [sound.1 g (by simpa using hjoined)] at fresh
  cases fresh

theorem notifySound_post {g : HostId} (sound : notifySound r) (phase : r.phase ≠ .held) : notifySound (r.post g) := by
  refine ⟨fun g' => ?_, fun hp => absurd hp phase⟩
  simp only [Round.post, member_join, Bool.or_eq_true]
  exact Or.imp_left (sound.1 g')

/-- A place of the completion queue taken for a membership is a membership more. -/
theorem JoinChange.notify {g : HostId} {q : Round} (change : JoinChange g r q) (sound : notifySound r) :
    bit (member q.contributionNotices g) + bit (member q.waitNotices g)
        = bit (member r.contributionNotices g) + bit (member r.waitNotices g) + 1
      ∧ (∀ g', g' ≠ g → bit (member q.contributionNotices g') + bit (member q.waitNotices g')
        = bit (member r.contributionNotices g') + bit (member r.waitNotices g'))
      ∧ notifySound q := by
  cases change with
  | absorbed absorbing participant fresh =>
    have hfree := notJoined sound fresh
    have hsound := notifySound_post (g := g) sound (by simp [absorbing])
    refine ⟨?_, fun g' hg => ?_, hsound⟩
    · rw [hfree, show member ((r.post g).arrive g .absorbed).contributionNotices g = true by simp [Round.arrive, Round.post]]
      show 1 + bit (member r.waitNotices g) = 0 + bit (member r.waitNotices g) + 1
      omega
    · simp [Round.arrive, Round.post, hg]
  | waits notHeld fresh =>
    refine ⟨?_, fun g' hg => ?_, sound.1, fun hp => absurd hp notHeld⟩
    · simp [fresh, bit]
    · simp [hg]

theorem handOn_queues_finished (hd : r.destination = none) :
    (s.handOn c r).queues = (s.postNotices c s.cells[c].number { r with publication := some .notWritten }).queues := by
  rw [State.handOn, hd]
  dsimp only
  rw [finishRound_eq]

theorem handOn_queues_published (hd : r.destination ≠ none) : (s.handOn c r).queues = s.queues := by
  rw [((handOn_spec s c r).1 hd).1]

theorem change_membershipLaw (change : Change i s u) (framing : FramingLaw s) (notices : NoticeLaw s)
    (h : MembershipLaw s) : MembershipLaw u := by
  obtain ⟨hhosts, hcells⟩ := (membershipLaw_iff s).1 h
  have hawaited : ∀ {g : HostId} {words : List Word}, s.ports[g].framing = .delivering words .handed →
      s.ports[g].awaited = 0 := fun {g} _ handed => ((framingSound_delivering handed).1 (framing g)).1.2.2 (by simp)
  have hport : ∀ (g : HostId) (p : HostPort), hostReserved p s.queues[g].reservations (membershipsOn s.cells g) →
      MembershipLaw (s.putPort g p) := fun g p hp => (membershipLaw_iff _).2
    ⟨forall_set (P := fun (g : HostId) (p : HostPort) =>
      hostReserved p s.queues[g].reservations (membershipsOn s.cells g)) hp hhosts, hcells⟩
  have hqueue : ∀ (g : HostId) (q : CompletionQueue), q.reservations = s.queues[g].reservations →
      MembershipLaw (s.putQueue g q) := fun g q hq => (membershipLaw_iff _).2
    ⟨forall_set (P := fun (g : HostId) (q : CompletionQueue) =>
      hostReserved s.ports[g] q.reservations (membershipsOn s.cells g)) (hq ▸ hhosts g) hhosts, hcells⟩
  have hboth : ∀ (g : HostId) (p : HostPort) (q : CompletionQueue),
      hostReserved p q.reservations (membershipsOn s.cells g) → MembershipLaw ((s.putPort g p).putQueue g q) := by
    refine fun g p q hg => (membershipLaw_iff _).2 ⟨fun g' => ?_, hcells⟩
    show hostReserved (s.ports.set g p)[g'] (s.queues.set g _)[g'].reservations (membershipsOn s.cells g')
    by_cases heq : g = g'
    · subst heq
      rw [set_same, set_same]
      exact hg
    · rw [set_other _ _ _ _ heq, set_other _ _ _ _ heq]
      exact hhosts g'
  cases change with
  | port g change => exact hport g _ (hostReserved_portChange change (hhosts g) (notices g))
  | lossTaken g sent gone =>
    have hgone : membershipsOn s.cells g = 0 := gone
    have hg := hhosts g
    rw [hgone] at hg
    refine hport g _ ?_
    rw [hgone]
    exact hostReserved_gone hg rfl
  | control g word =>
    exact hboth g _ _ (hostReserved_port (hhosts g) rfl rfl)
  | portWasReset g => exact hboth g _ _ (hostReserved_reset (hhosts g))
  | read g => 
    refine hqueue g _ ?_
    unfold readQueue
    split
    · rfl
    · split <;> rfl
  | noticed g e => exact hqueue g _ rfl
  | opened c g participants settings repeats timeout destination free =>
    refine membershipLaw_putCell h (fun g' => ?_) fun q hq => ?_
    · rw [memberships_round, show (freshRound g participants settings repeats false timeout destination).contributionNotices
        = 0 from rfl, show (freshRound g participants settings repeats false timeout destination).waitNotices = 0 from rfl,
        member_zero, memberships, free]
      rfl
    · cases hq
      exact notifySound_empty rfl rfl
  | posted c r e round collecting participant fresh cell number _ _ _ _ handed =>
    have hsound := hcells c r round
    have hfree := notJoined hsound fresh
    refine membershipLaw_joined (s := s) (g := e.host) h (hawaited handed) ?_ (fun g' hg => ?_) fun q hq => ?_
    · rw [memberships_round, memberships, round]
      dsimp only
      rw [hfree, show member (r.post e.host).contributionNotices e.host = true by simp [Round.post]]
      show 1 + bit (member r.waitNotices e.host) = 0 + bit (member r.waitNotices e.host) + 1
      omega
    · rw [memberships_round, memberships, round]
      simp [Round.post, hg]
    · cases hq
      exact notifySound_post hsound (by simp [collecting])
  | joined c r g round change credit handed =>
    obtain ⟨hmine, hothers, hsound⟩ := change.notify (hcells c r round)
    refine membershipLaw_joined (s := s) (g := g) h (hawaited handed) ?_ (fun g' hg => ?_) fun q hq => ?_
    · rw [memberships_round, memberships, round]
      exact hmine
    · rw [memberships_round, memberships, round]
      exact hothers g' hg
    · cases hq
      exact hsound
  | kept c r round change =>
    obtain ⟨hc, hw, hsound⟩ := change.notify (hcells c r round)
    refine membershipLaw_putCell h (fun g => ?_) fun q hq => ?_
    · rw [memberships_round, hc, hw, memberships, round]
    · cases hq
      exact hsound
  | withdrawn g sent => 
    refine (membershipLaw_iff _).2 ⟨fun g' => ?_, fun c q hq => ?_⟩
    · show hostReserved s.ports[g'] s.queues[g'].reservations (membershipsOn (s.cells.map (loseHost g)) g')
      by_cases hg : g' = g
      · subst hg
        rw [show membershipsOn (s.cells.map (loseHost g')) g' = 0 from membershipCount_loseHost s g']
        exact hostReserved_lost (hhosts g') (notices g') sent
      · have hsame : membershipsOn (s.cells.map (loseHost g)) g' = membershipsOn s.cells g' := by
          refine congrArg List.sum (List.map_congr_left fun c _ => ?_)
          rw [show (s.cells.map (loseHost g))[c] = loseHost g s.cells[c] by simp]
          exact memberships_loseHost_other hg (hcells c)
        rw [hsame]
        exact hhosts g'
    · rw [show (s.cells.map (loseHost g))[c] = loseHost g s.cells[c] by simp] at hq
      exact notifySound_loseHost (hcells c) q hq
  | freed c r round held =>
    refine membershipLaw_putCell h (fun g => ?_) fun q hq => nomatch hq
    exact (memberships_held round (hcells c r round) held g).symm
  | reported c r round collecting found change =>
    obtain ⟨hc, hw, hsound⟩ := change.notify (hcells c r round)
    refine membershipLaw_putCell (s := s) h (fun g => ?_) fun q hq => ?_
    · rw [memberships_round, hc, hw, memberships, round]
    · cases hq
      exact hsound
  | @closed c r reports q round closing =>
    obtain ⟨hc, hw, hp⟩ := closing.notify
    have hmine : ∀ g, memberships g s.cells[c] = bit (member q.contributionNotices g) + bit (member q.waitNotices g) :=
      fun g => by rw [memberships, round, hc, hw]
    show MembershipLaw { s with
      cells := s.cells.set c (cellHandedOn s.cells[c].number q), queues := (s.handOn c q).queues }
    by_cases hd : q.destination = none
    · rw [handOn_queues_finished hd, cellHandedOn, if_pos hd]
      exact membershipLaw_noticed (q := { q with publication := some .notWritten }) h hmine (disposed_notify _ _).1
        (disposed_notify _ _).2
    · rw [handOn_queues_published hd, cellHandedOn, if_neg hd]
      refine membershipLaw_putCell h (fun g => (hmine g).symm) fun q' hq => ?_
      cases hq
      exact notifySound_same (hcells c r round) hc hp (by simp)
  | published c r round publishing =>
    refine membershipLaw_noticed (s := s) h (fun g => ?_) (disposed_notify _ _).1 (disposed_notify _ _).2
    rw [memberships, round]
  | dispatched e r w first idle round =>
    refine membershipLaw_putCell (s := s) (c := e.cell) h (fun g => ?_) fun q hq => ?_
    · rw [memberships_round, memberships, round]
    · cases hq
      exact hcells e.cell r round
  | restarted =>
    refine (membershipLaw_iff _).2 ⟨fun g => ?_, fun c q hq => ?_⟩
    · have hnone : membershipsOn s.resetBlocks.cells g = 0 := by
        simp [membershipsOn, State.resetBlocks, State.reset, Cell.reset, memberships]
      show hostReserved s.resetBlocks.ports[g] s.resetBlocks.queues[g].reservations (membershipsOn s.resetBlocks.cells g)
      rw [hnone]
      simp [hostReserved, State.resetBlocks, State.reset, CompletionQueue.reset, HostPort.reset]
    · simp [State.resetBlocks, State.reset, Cell.reset] at hq
  | _ => exact h

theorem membershipLaw_pending (rest : List Instr) (h : MembershipLaw s) : MembershipLaw { s with pending := rest } :=
  (membershipLaw_iff _).2 ((membershipLaw_iff s).1 h)

/-- Settles O58: every change keeps the framing, notice and membership laws together. -/
theorem stepKeepsAReservationForEveryMembership : Obligations.StepKeepsAReservationForEveryMembership := by
  intro s t next framing notices _ memberships
  have hchange : ∀ {i : Instr} {s u : State}, Change i s u → FramingLaw s ∧ NoticeLaw s ∧ MembershipLaw s →
      FramingLaw u ∧ NoticeLaw u ∧ MembershipLaw u := fun change ⟨hframing, hnotices, hmemberships⟩ =>
    ⟨change_framingLaw change hframing, change_noticeLaw change hnotices,
      change_membershipLaw change hframing hnotices hmemberships⟩
  exact (step_keeps (P := fun s => FramingLaw s ∧ NoticeLaw s ∧ MembershipLaw s) next hchange
    fun rest => ⟨framing, notices, membershipLaw_pending rest memberships⟩).2.2

end Sys2Proof.Machine
end

section
/-! Proofs of what one step can do to a round number, an error latch, a stride value and the second write. -/

namespace Sys2Proof.Machine

open Sys2Proof.Safety

variable {i : Instr} {s t u : State} {c : CellId} {h : HostId}

/-- The device reset and the coming up of the supplies. -/
def restarts (i : Instr) : Prop :=
  i = .deviceReset ∨ i = .suppliesComeUp

/-! ### Error latches -/

/-- A kind of the error latch of host `h` is kept, or the event is one that may clear it. -/
def latchKept (i : Instr) (h : HostId) (kind : Nat) (s u : State) : Prop :=
  s.queues[h].latch.getLsbD kind = true →
    u.queues[h].latch.getLsbD kind = true ∨ restarts i
      ∨ ∃ w : Word, writesControl i h w ∧ w.getLsbD 31 = false ∧ w.getLsbD kind = true

theorem controlAck_bit {word : Word} {kind : Nat} (bit : (controlAck word).getLsbD kind = true) :
    word.getLsbD kind = true := by
  rw [controlAck, bitField_eq] at bit
  simp only [BitVec.ofNat_toNat, BitVec.getLsbD_setWidth, BitVec.getLsbD_extractLsb', Nat.zero_add, Bool.and_eq_true]
    at bit
  exact bit.2.2

theorem latch_queueAfter (p : HostPort) (q : CompletionQueue) (e : Entry) {kind : Nat}
    (held : q.latch.getLsbD kind = true) : (queueAfter p q e).latch.getLsbD kind = true := by
  unfold queueAfter
  split
  · exact held
  · simp [withLine, held]

/-- Writing a queue keeps the kind, when what is written for the host holds it. -/
theorem latch_set {g : HostId} {q : CompletionQueue} {kind : Nat} (kept : g = h → q.latch.getLsbD kind = true)
    (held : s.queues[h].latch.getLsbD kind = true) : (s.putQueue g q).queues[h].latch.getLsbD kind = true := by
  rw [State.putQueue_queues]
  by_cases hg : g = h
  · subst hg
    rw [set_same]
    exact kept rfl
  · rw [set_other _ _ _ _ hg]
    exact held

theorem Change.latchKept (change : Change i s u) (h : HostId) (kind : Nat) : latchKept i h kind s u := by
  intro held
  cases change with
  | control g word row noReset =>
    by_cases hbit : g = h ∧ (controlAck word).getLsbD kind = true
    · obtain ⟨rfl, hack⟩ := hbit
      exact .inr (.inr ⟨word, row, noReset, controlAck_bit hack⟩)
    · refine .inl (latch_set (s := s.putPort g _) (fun hg => ?_) held)
      subst hg
      have hack : (controlAck word).getLsbD kind = false := by simpa using hbit
      have hkind : kind < 5 := BitVec.lt_of_getLsbD held
      rw [BitVec.getLsbD_and, BitVec.getLsbD_not, hack]
      simpa [hkind] using held
  | read g =>
    refine .inl (latch_set (fun hg => ?_) held)
    subst hg
    unfold readQueue
    split
    · exact held
    · split <;> exact held
  | noticed g e =>
    refine .inl (latch_set (fun hg => ?_) held)
    subst hg
    rw [BitVec.getLsbD_or, held, Bool.true_or]
  | portWasReset g =>
    refine .inl (latch_set (s := s.putPort g _) (fun hg => ?_) held)
    subst hg
    exact held
  | posted c r e =>
    refine .inl (latch_set (g := e.host) (fun hg => ?_) held)
    subst hg
    exact held
  | joined c r g =>
    refine .inl (latch_set (g := g) (fun hg => ?_) held)
    subst hg
    exact held
  | closed c r =>
    exact .inl (handOn_keeps_queues (P := fun (g : HostId) q => g = h → q.latch.getLsbD kind = true)
      (fun g q e hq hg => latch_queueAfter _ q e (hq hg)) (fun g hg => hg ▸ held) c _ h rfl)
  | published c r =>
    exact .inl (postNotices_keeps (P := fun (g : HostId) q => g = h → q.latch.getLsbD kind = true)
      (fun g q e hq hg => latch_queueAfter _ q e (hq hg)) (fun g hg => hg ▸ held) c _ _ h rfl)
  | restarted row => exact .inr (.inl row)
  | _ => exact .inl held

/-! ### Stride values -/

theorem Change.strideValue (change : Change i s u) (e : StrideId) (other : ∀ h, i ≠ .setStride h) :
    u.strides[e].value = s.strides[e].value ∨ restarts i := by
  cases change with
  | strideSet _ _ _ _ _ row =>
    obtain ⟨h, rfl⟩ := row
    exact absurd rfl (other h)
  | posted c r x => exact .inl (by rw [State.enqueue_strides, bindRefs_get]; rfl)
  | removed leaves => exact .inl (by rw [(removeContributions_left s leaves).2.2])
  | walkEnded w walk =>
    refine .inl ?_
    show (releaseRefs walk.contribution.refs s.strides)[e].value = _
    rw [releaseRefs_get]
  | restarted row => exact .inr row
  | _ => exact .inl rfl

/-- SET_STRIDE does not touch the value of an entry that is referenced. -/
theorem takeSetStride_value (s : State) (h : HostId) (words : List Word) {e : StrideId} (referenced : 1 ≤ s.strides[e].count) :
    (takeSetStride s h words).strides[e].value = s.strides[e].value := by
  unfold takeSetStride
  dsimp only
  split
  · rfl
  split
  · rfl
  next free =>
    by_cases he : commandEntry words = e
    · subst he
      omega
    · exact congrArg StrideEntry.value (set_other _ _ _ _ he)

/-! ### The second write -/

/-- The Publisher's second write was already its step. -/
def secondKept (s u : State) : Prop :=
  ∀ p, u.publisher = some p → p.step = .secondWrite →
    ∃ q, s.publisher = some q ∧ q.cell = p.cell ∧ q.step = .secondWrite

theorem composeRecord_first {cell : Cell} {p : PublisherRecord} (composed : composeRecord c cell = some p) :
    p.step = .firstWrite := by
  unfold composeRecord at composed
  split at composed
  · cases composed
  · obtain ⟨_, _, rfl⟩ := Option.map_eq_some_iff.1 composed
    rfl

/-- A record that the Publisher takes from its queue is at its first write. -/
theorem takeHead_second {p : PublisherRecord} (current : s.takeHead.publisher = some p) (second : p.step = .secondWrite) :
    s.publisher = some p := by
  unfold State.takeHead at current
  split at current
  · have := composeRecord_first current
    rw [second] at this
    cases this
  · exact current

theorem handOn_second {r : Round} {p : PublisherRecord} (current : (s.handOn c r).publisher = some p)
    (second : p.step = .secondWrite) : s.publisher = some p := by
  unfold State.handOn at current
  split at current
  · exact takeHead_second (s := { s.putRound c { r with phase := .publishing } with
      publicationQueue := s.publicationQueue ++ [c] }) current second
  · rw [finishRound_eq] at current
    exact current

theorem Change.secondKept (change : Change i s u) (other : i ≠ .publisherAnswer) : secondKept s u := by
  intro p current second
  cases change with
  | secondOffered _ row => exact absurd row other
  | closed c r => exact ⟨p, handOn_second current second, rfl, second⟩
  | writeIssued record old =>
    cases current
    exact ⟨record, old, rfl, second⟩
  | writeReported record status =>
    cases takeHead_second current second
  | restarted => cases current
  | _ => exact ⟨p, current, rfl, second⟩

theorem secondKept_trans {v : State} (first : secondKept s u) (next : secondKept u v) : secondKept s v := by
  intro p current second
  obtain ⟨q, hq, hcell, hstep⟩ := next p current second
  obtain ⟨q', hq', hcell', hstep'⟩ := first q hq hstep
  exact ⟨q', hq', hcell'.trans hcell, hstep'⟩

/-- The answer to the Publisher offers the second write only when it is OK to the first. -/
theorem execPublisherAnswer_second (next : execPublisherAnswer s = .next t) {p : PublisherRecord}
    (current : t.publisher = some p) (second : p.step = .secondWrite) :
    ∃ q, s.publisher = some q ∧ q.cell = p.cell ∧ q.step = .firstWrite ∧ q.waiting = true
      ∧ ∃ data, s.answers[publisherSlot] = some (.ok data) := by
  unfold execPublisherAnswer at next
  split at next
  · cases next
  · cases next
  next a q answer publisher =>
    split at next
    next waits =>
      rw [completed_eq] at next
      cases next
      rw [State.settle_publisher] at current
      have hreported : ∀ status, ((State.reportPublication
          { s with answers := s.answers.set publisherSlot none } q.cell status).publisher = some p) → False := by
        intro status hreport
        cases takeHead_second hreport second
      unfold State.publisherTakes at current
      split at current
      next first =>
        cases current
        exact ⟨q, publisher, rfl, first, waits, _, answer⟩
      all_goals exact (hreported _ current).elim
    · cases next

/-! ### Round numbers -/

/-- A cell keeps the round number, or has entered COLLECTING with the next one. -/
def numberStep (number : RoundNumber) (cell : Cell) : Prop :=
  cell.number = number
    ∨ cell.number = number + 1
      ∧ ∃ r, cell.round = some r ∧ r.phase = .collecting ∧ r.posted = 0 ∧ r.arrived = 0

/-- Every cell keeps its round number or has entered COLLECTING with the next one. -/
def numbersStep (s u : State) : Prop :=
  ∀ c : CellId, numberStep s.cells[c].number u.cells[c]

theorem numbersStep_set {cell : Cell} (cells : u.cells = s.cells.set c cell) (step : numberStep s.cells[c].number cell) :
    numbersStep s u := by
  intro d
  rw [cells]
  exact forall_set (P := fun (d : CellId) (cell : Cell) => numberStep s.cells[d].number cell) step
    (fun _ => .inl rfl) d

theorem numbersStep_same (cells : u.cells = s.cells) : numbersStep s u := fun c => .inl (by rw [cells])

/-- Only the round numbers count of what came before. -/
theorem numbersStep_of_numbers {v : State} (numbers : ∀ c : CellId, v.cells[c].number = s.cells[c].number)
    (step : numbersStep v u) : numbersStep s u := fun c => numbers c ▸ step c

theorem numberStep_fresh (number : RoundNumber) (opener : HostId) (participants : HostSet) (settings : Settings)
    (repeats : Bool) (timeout : Nat) (destination : Option Addr) :
    numberStep number
      { number := number + 1, round := some (newRound opener participants settings repeats timeout destination) } :=
  .inr ⟨rfl, _, rfl, rfl, rfl, rfl⟩

theorem numberStep_disposed (number : RoundNumber) (r : Round) : numberStep number (disposed number r) := by
  unfold disposed
  split
  · exact .inl rfl
  split
  · exact numberStep_fresh _ _ _ _ _ _ _
  · exact .inl rfl

theorem numberStep_handedOn (number : RoundNumber) (r : Round) : numberStep number (cellHandedOn number r) := by
  unfold cellHandedOn
  split
  · exact numberStep_disposed _ _
  · exact .inl rfl

theorem putRound_numbersStep (s : State) (c : CellId) (r : Round) : numbersStep s (s.putRound c r) :=
  numbersStep_set rfl (.inl rfl)

theorem handOn_numbersStep (s : State) (c : CellId) (r : Round) : numbersStep s (s.handOn c r) :=
  numbersStep_set (by rw [handOn_frame]) (numberStep_handedOn _ _)

theorem closeEarly_numbersStep (s : State) (c : CellId) (r : Round) : numbersStep s (s.closeEarly c r) :=
  handOn_numbersStep _ _ _

theorem earlyEnd_numbersStep (s : State) (c : CellId) (r : Round) (cause : RoundOutcome) :
    numbersStep s (s.earlyEnd c r cause) := by
  unfold State.earlyEnd
  dsimp only
  split
  · unfold State.drainOrClose
    split
    · exact numbersStep_set rfl (.inl rfl)
    · exact closeEarly_numbersStep (s.removeCell c) c _
  · exact closeEarly_numbersStep s c _

theorem collectReport_numbersStep (s : State) (c : CellId) (r : Round) (host : HostId) (kind : ReportKind) :
    numbersStep s (s.collectReport c r host kind) := by
  cases kind with
  | done accumulator t =>
    unfold State.collectReport State.commitWalk State.cleanEnd
    dsimp only
    split
    · split <;> exact handOn_numbersStep _ _ _
    · exact putRound_numbersStep _ _ _
  | fault kind index address =>
    unfold State.collectReport State.faultRound
    dsimp only
    split
    · exact closeEarly_numbersStep (s.removeCell c) c _
    · exact putRound_numbersStep (s.removeCell c) c _
  | cut => exact putRound_numbersStep s c _

/-- What each dispatch keeps of a step of the round numbers, completing the event keeps. -/
theorem settle_numbersStep (step : numbersStep s u) : numbersStep s u.settle := by
  refine settle_keeps (P := numbersStep s) (fun v hv => ?_) (fun v hv => ?_) step
  · rw [makeGrant_frame]
    exact hv
  · rcases makeDispatch_cases v with ⟨hsame, -⟩ | ⟨e, r, w, -, -, round, hdispatch⟩
    · rwa [hsame]
    · rw [hdispatch]
      refine forall_set (P := fun (d : CellId) (cell : Cell) => numberStep s.cells[d].number cell) ?_ hv
      rcases hv e.cell with hkept | ⟨hnext, r', round', hphase, hposted, harrived⟩
      · exact .inl hkept
      · obtain rfl := Option.some.inj (round.symm.trans round')
        exact .inr ⟨hnext, _, rfl, hphase, hposted, harrived⟩

theorem completed_numbersStep (step : numbersStep s u) (next : completed u = .next t) : numbersStep s t := by
  cases next
  exact settle_numbersStep step

theorem ownerTakes_numbersStep {code : Nat} {act : List Word → State} (acts : ∀ words, numbersStep s (act words))
    (next : ownerTakes s h code act = .next t) : numbersStep s t := by
  unfold ownerTakes at next
  split at next
  · cases next
  · exact completed_numbersStep (acts _) next

theorem takeOpen_numbersStep (s : State) (h : HostId) (words : List Word) : numbersStep s (takeOpen s h words) := by
  unfold takeOpen
  dsimp only
  split
  · exact numbersStep_same rfl
  · exact numbersStep_same rfl
  · rw [freshRound_eq]
    exact numbersStep_set rfl (numberStep_fresh _ _ _ _ _ _ _)

theorem acceptContribute_numbersStep (s : State) (h : HostId) (f : ContributeFields) (d : Descriptor) (r : Round) :
    numbersStep s (acceptContribute s h f d r) := by
  unfold acceptContribute
  split
  · exact numbersStep_set rfl (.inl rfl)
  · unfold State.absorb
    dsimp only
    split
    · exact closeEarly_numbersStep (s.reserve h) f.cell _
    · exact putRound_numbersStep (s.reserve h) f.cell _

theorem takeContribute_numbersStep (s : State) (h : HostId) (words : List Word) :
    numbersStep s (takeContribute s h words) := by
  unfold takeContribute
  dsimp only
  split
  · exact numbersStep_same rfl
  split
  · exact numbersStep_same rfl
  split
  · exact numbersStep_same rfl
  split
  · exact numbersStep_same rfl
  split
  · exact numbersStep_same rfl
  · exact acceptContribute_numbersStep _ _ _ _ _

theorem takeAbort_numbersStep (s : State) (h : HostId) (words : List Word) : numbersStep s (takeAbort s h words) := by
  unfold takeAbort
  dsimp only
  split
  · exact numbersStep_same rfl
  split
  · exact numbersStep_same rfl
  · exact earlyEnd_numbersStep _ _ _ _

theorem takeReport_numbersStep {kind : ReportKind → Bool} (next : takeReport s c kind = .next t) : numbersStep s t := by
  unfold takeReport at next
  split at next
  · cases next
  next m found =>
    let v : State := { s with walkReports := s.walkReports.eraseP (reportFor c kind) }
    dsimp only at next
    split at next
    · cases next
    next r round =>
      split at next
      · exact completed_numbersStep (numbersStep_of_numbers (v := v) (fun _ => rfl)
          (collectReport_numbersStep v c r m.host m.kind)) next
      · exact completed_numbersStep (numbersStep_of_numbers (v := v) (fun _ => rfl)
          (closeEarly_numbersStep v c (r.arrive m.host (reportStatus m.kind)).clearWalk)) next
      all_goals cases next

theorem execPublicationDone_numbersStep (next : execPublicationDone c s = .next t) : numbersStep s t := by
  unfold execPublicationDone at next
  split at next
  · cases next
  split at next
  · cases next
  split at next
  · refine completed_numbersStep ?_ next
    rw [finishRound_eq]
    exact numbersStep_set rfl (numberStep_disposed _ _)
  · cases next

theorem cellTick_numbersStep (s : State) (c : CellId) : numbersStep s (s.cellTick c) := by
  unfold State.cellTick
  split
  · exact numbersStep_same rfl
  split
  · exact earlyEnd_numbersStep _ _ _ _
  split
  · exact putRound_numbersStep _ _ _
  · exact numbersStep_same rfl

theorem execDeadlineTimerTick_numbersStep (next : execDeadlineTimerTick c s = .next t) : numbersStep s t := by
  unfold execDeadlineTimerTick at next
  split at next
  · cases next
  · exact completed_numbersStep (cellTick_numbersStep (s.useDeadlineTick c) c) next

theorem execDeadlineExpiry_numbersStep (next : execDeadlineExpiry c s = .next t) : numbersStep s t := by
  unfold execDeadlineExpiry at next
  split at next
  · cases next
  split at next
  · exact completed_numbersStep (cellTick_numbersStep (s.useDeadlineTick c) c) next
  · cases next

/-- Ending the rounds of distinct cells steps each of them once. -/
theorem loseRounds_numbersStep (cells : List CellId) (distinct : cells.Nodup) (s : State) :
    numbersStep s (cells.foldl State.loseRound s)
      ∧ ∀ d, d ∉ cells → (cells.foldl State.loseRound s).cells[d] = s.cells[d] := by
  induction cells generalizing s with
  | nil => exact ⟨numbersStep_same rfl, fun _ _ => rfl⟩
  | cons c rest ih =>
    obtain ⟨hc, hrest⟩ := List.nodup_cons.1 distinct
    obtain ⟨hsteps, hothers⟩ := ih hrest (s.loseRound c)
    have hone : numbersStep s (s.loseRound c) ∧ ∀ d, d ≠ c → (s.loseRound c).cells[d] = s.cells[d] := by
      unfold State.loseRound
      split
      · exact ⟨numbersStep_same rfl, fun _ _ => rfl⟩
      split
      · refine ⟨earlyEnd_numbersStep _ _ _ _, fun d hd => ?_⟩
        obtain ⟨cell, hframe⟩ := earlyEnd_frame s c ‹_› .lost
        rw [hframe]
        exact set_other _ _ _ _ (Ne.symm hd)
      · exact ⟨numbersStep_same rfl, fun _ _ => rfl⟩
    rw [List.foldl_cons]
    refine ⟨fun d => ?_, fun d hd => ?_⟩
    · by_cases hd : d = c
      · subst hd
        rw [hothers d hc]
        exact hone.1 d
      · rw [← hone.2 d hd]
        exact hsteps d
    · obtain ⟨hdc, hdrest⟩ := not_or.1 (mt List.mem_cons.2 hd)
      rw [hothers d hdrest, hone.2 d hdc]

theorem loseHost_number (h : HostId) (cell : Cell) : (loseHost h cell).number = cell.number := by
  unfold loseHost
  split
  · rfl
  · split <;> rfl

theorem execLossNotice_numbersStep (next : execLossNotice h s = .next t) : numbersStep s t := by
  unfold execLossNotice at next
  split at next
  · cases next
  · refine completed_numbersStep ?_ next
    let v : State := s.putPort h { s.ports[h] with lossNotices := s.ports[h].lossNotices - 1 }.returnAck
    refine numbersStep_of_numbers (v := { v with cells := v.cells.map (loseHost h), lossCount := v.lossCount + 1 })
      (fun c => ?_) (loseRounds_numbersStep (lossCells v h) (lossCells_spec v h).2 _).1
    rw [show (v.cells.map (loseHost h))[c] = loseHost h s.cells[c] by simp [v]]
    exact loseHost_number h _

/-- The rows that hand on no round, open none and publish none keep every round number, or set it to 0. -/
theorem Change.number (change : Change i s u) (c : CellId) (quiet : handsOn i = false) (open' : ∀ h, i ≠ .openCell h)
    (publish : ∀ c, i ≠ .publicationDone c) :
    u.cells[c].number = s.cells[c].number ∨ restarts i ∧ u.cells[c].number = 0 := by
  have hput : ∀ {d : CellId} {cell : Cell}, cell.number = s.cells[d].number →
      (s.cells.set d cell)[c].number = s.cells[c].number := fun hcell =>
    forall_set (P := fun (c : CellId) (cell : Cell) => cell.number = s.cells[c].number) hcell (fun _ => rfl) c
  cases change with
  | opened _ h _ _ _ _ _ _ row => exact absurd row (open' h)
  | closed _ _ _ _ row =>
    rw [row] at quiet
    cases quiet
  | published c _ _ _ _ row => exact absurd row (publish c)
  | restarted row => exact .inr ⟨row, by simp [State.resetBlocks, State.reset, Cell.reset]⟩
  | posted => exact .inl (hput rfl)
  | joined => exact .inl (hput rfl)
  | kept => exact .inl (hput rfl)
  | withdrawn g =>
    refine .inl ?_
    rw [show (s.cells.map (loseHost g))[c] = loseHost g s.cells[c] by simp]
    exact loseHost_number g _
  | freed => exact .inl (hput rfl)
  | reported => exact .inl (hput rfl)
  | dispatched => exact .inl (hput rfl)
  | _ => exact .inl rfl

/-- The round numbers after the event of a row (L9). -/
theorem exec_numbers (next : exec i s = .next t) (c : CellId) :
    numberStep s.cells[c].number t.cells[c] ∨ restarts i ∧ t.cells[c].number = 0 := by
  have hquiet : handsOn i = false → (∀ h, i ≠ .openCell h) → (∀ c, i ≠ .publicationDone c) →
      numberStep s.cells[c].number t.cells[c] ∨ restarts i ∧ t.cells[c].number = 0 := by
    intro quiet open' publish
    refine ((exec_event next).keeps (P := fun u => u.cells[c].number = s.cells[c].number
      ∨ restarts i ∧ u.cells[c].number = 0) (fun change hu => ?_) (.inl rfl)).imp_left .inl
    rcases change.number c quiet open' publish with hsame | hzero
    · rw [hsame]
      exact hu
    · exact .inr hzero
  cases i with
  | openCell h => exact .inl (ownerTakes_numbersStep (takeOpen_numbersStep s h) next c)
  | contribute h => exact .inl (ownerTakes_numbersStep (takeContribute_numbersStep s h) next c)
  | abort h => exact .inl (ownerTakes_numbersStep (takeAbort_numbersStep s h) next c)
  | walkEndDone d => exact .inl (takeReport_numbersStep next c)
  | walkEndFault d => exact .inl (takeReport_numbersStep next c)
  | walkEndCut d => exact .inl (takeReport_numbersStep next c)
  | publicationDone d => exact .inl (execPublicationDone_numbersStep next c)
  | deadlineTimerTick d => exact .inl (execDeadlineTimerTick_numbersStep next c)
  | deadlineExpiry d => exact .inl (execDeadlineExpiry_numbersStep next c)
  | lossNotice h => exact .inl (execLossNotice_numbersStep next c)
  | _ => exact hquiet rfl nofun nofun

theorem exec_latches (next : exec i s = .next t) (h : HostId) (kind : Nat) : latchKept i h kind s t :=
  (exec_event next).keeps (P := latchKept i h kind s)
    (fun change kept held => (kept held).elim (change.latchKept h kind) .inr) .inl

theorem exec_strideValues (next : exec i s = .next t) (e : StrideId) (referenced : 1 ≤ s.strides[e].count) :
    t.strides[e].value = s.strides[e].value ∨ restarts i := by
  by_cases hset : ∃ h, i = .setStride h
  · obtain ⟨h, rfl⟩ := hset
    have next : ownerTakes s h 7 (takeSetStride s h) = .next t := next
    unfold ownerTakes at next
    split at next
    · cases next
    next words _ =>
      rw [completed_eq] at next
      cases next
      rw [State.settle_strides]
      exact .inl (takeSetStride_value s h words referenced)
  · refine (exec_event next).keeps (P := fun u => u.strides[e].value = s.strides[e].value ∨ restarts i)
      (fun change kept => ?_) (.inl rfl)
    rcases change.strideValue e (fun h hi => hset ⟨h, hi⟩) with hsame | hrestart
    · rw [hsame]
      exact kept
    · exact .inr hrestart

theorem exec_second (next : exec i s = .next t) {p : PublisherRecord} (current : t.publisher = some p)
    (second : p.step = .secondWrite) :
    ∃ q, s.publisher = some q ∧ q.cell = p.cell
      ∧ (q.step = .secondWrite
        ∨ (q.step = .firstWrite ∧ q.waiting = true ∧ i = .publisherAnswer
          ∧ ∃ data, s.answers[publisherSlot] = some (.ok data))) := by
  by_cases hanswer : i = .publisherAnswer
  · subst hanswer
    obtain ⟨q, hq, hcell, hfirst, hwaits, hdata⟩ := execPublisherAnswer_second next current second
    exact ⟨q, hq, hcell, .inr ⟨hfirst, hwaits, rfl, hdata⟩⟩
  · have hkept : secondKept s t := (exec_event next).keeps (P := secondKept s)
      (fun change kept => secondKept_trans kept (change.secondKept hanswer)) fun p hp hstep => ⟨p, hp, rfl, hstep⟩
    obtain ⟨q, hq, hcell, hstep⟩ := hkept p current second
    exact ⟨q, hq, hcell, .inl hstep⟩

/-- Settles O60, clause by clause. -/
theorem stepKeepsTheHistoryLaws : Obligations.StepKeepsTheHistoryLaws := by
  intro s t i next
  refine ⟨fun c => ?_, exec_latches next, exec_strideValues next, fun p => exec_second next⟩
  rcases exec_numbers next c with (hkept | hnext) | hzero
  · exact .inl hkept
  · exact .inr (.inl hnext)
  · exact .inr (.inr hzero)

end Sys2Proof.Machine
end

section
/-! Proofs for law L7, the outcome of each phase and the deadline timers: what treating elements keeps of the working
accumulator, then each law change by change. -/

namespace Sys2Proof.Machine

open Sys2Proof.Safety

variable {i : Instr} {s t u : State} {c : CellId} {r : Round}

/-! ### The accumulator's range -/

theorem inRange_some {a : Int} : inRange (some a) ↔ -(2 ^ 47) ≤ a ∧ a ≤ 2 ^ 47 - 1 := by
  simp [inRange]

theorem inRange_none : inRange none := fun _ h => nomatch h

/-- An element that is not VOID lies strictly within its format's symmetric range, and so within 32 bits (R1). -/
theorem abs_elementBytes_le (unit : DataUnit) (address : Addr) (format : ElementFormat)
    (valued : elementBytes unit address (elementSize format) ≠ elementVoid format) :
    |elementBytes unit address (elementSize format)| ≤ 2147483647 := by
  have hlow := BitVec.le_toInt (BitVec.ofNat (8 * elementSize format)
    (unit.toNat / 2 ^ (8 * (address.toNat % 8))))
  have hhigh := BitVec.toInt_lt (x := BitVec.ofNat (8 * elementSize format)
    (unit.toNat / 2 ^ (8 * (address.toNat % 8))))
  rw [← elementBytes] at hlow hhigh
  rw [abs_le]
  cases format <;> simp only [elementSize, elementVoid] at hlow hhigh valued ⊢ <;> norm_num at hlow hhigh valued ⊢ <;>
    omega

/-- A prescaled element stays below 2^46, so that one addition cannot leave two ranges (R4, R9). -/
theorem abs_prescaled_lt (mode : Rounding) {k x : Int} (low : -16 ≤ k) (high : k ≤ 15) (hx : |x| ≤ 2147483647) :
    |prescaled mode k x| < 2 ^ 46 := by
  by_cases hk : 0 ≤ k
  · exact (abs_prescaled_le mode hk high hx).trans_lt (by norm_num)
  · obtain ⟨n, hn⟩ : ∃ n : Nat, k = -(n : Int) := ⟨(-k).toNat, by omega⟩
    rw [hn, prescaled_neg mode (by omega)]
    exact (abs_roundedShift_le (b := 2147483647) mode (by omega) (by omega)).trans_lt (by norm_num)

/-- Combining keeps the accumulator in range (R7 to R10). -/
theorem combineValue_inRange {settings : CombineSettings} {accumulator working : Option Int} {v : Int} {t t' : Tallies}
    (range : inRange accumulator) (bound : |v| < 2 ^ 46)
    (combined : combineValue settings accumulator v t = .recorded working t') : inRange working := by
  have hv : -(2 ^ 47) ≤ v ∧ v ≤ 2 ^ 47 - 1 := by
    have := abs_lt.1 bound
    omega
  have hextreme : ∀ (p : Prop) [Decidable p] (a : Int), inRange (some a) → inRange (some (if p then v else a)) := by
    intro p _ a ha
    split
    · exact inRange_some.2 hv
    · exact ha
  unfold combineValue at combined
  split at combined
  next =>
    have ha : -(2 ^ 47) ≤ accumulator.getD 0 ∧ accumulator.getD 0 ≤ 2 ^ 47 - 1 := by
      cases accumulator with
      | none => norm_num
      | some a => exact inRange_some.1 range
    generalize accumulator.getD 0 = a at ha combined
    have hsum : |a + v| < 2 ^ 47 + 2 ^ 46 := by
      rw [abs_lt] at bound ⊢
      omega
    by_cases hin : |a + v| ≤ accumulatorMax
    · rw [combineSum_inRange t _ hin] at combined
      cases combined
      rw [abs_le, accumulatorMax] at hin
      exact inRange_some.2 (by omega)
    · have hout := not_le.1 hin
      cases hpolicy : settings.overflow with
      | saturate =>
        rw [hpolicy, combineSum_saturate t hout] at combined
        cases combined
        refine inRange_some.2 ?_
        unfold accumulatorMax
        split <;> norm_num
      | wrap =>
        obtain ⟨b, hwrap, hlow, hhigh, -⟩ := combineSum_wrap t hout hsum
        rw [hpolicy, hwrap] at combined
        cases combined
        exact inRange_some.2 ⟨hlow, hhigh⟩
      | trap =>
        rw [hpolicy, combineSum_trap t hout] at combined
        cases combined
  next =>
    cases combined
    cases accumulator with
    | none => exact inRange_some.2 hv
    | some a => exact hextreme _ a range
  next =>
    cases combined
    cases accumulator with
    | none => exact inRange_some.2 hv
    | some a => exact hextreme _ a range

/-- The treatment of an answer keeps the working accumulator in range (law L7). -/
theorem treatAnswer_inRange {settings : CombineSettings} {format : ElementFormat} {prescale : Int}
    {accumulator working : Option Int} {t t' : Tallies} {address : Addr} {answer : Answer}
    (range : inRange accumulator) (low : -16 ≤ prescale) (high : prescale ≤ 15)
    (treated : treatAnswer settings format prescale accumulator t address (elementSize format) answer
      = .recorded working t') : inRange working := by
  cases answer with
  | error => cases treated
  | timeout => cases treated
  | ok data =>
    unfold treatAnswer treatElement at treated
    dsimp only at treated
    split at treated
    · split at treated
      · cases treated
        exact range
      · cases treated
    next valued =>
      have hbound := abs_prescaled_lt settings.rounding low high (abs_elementBytes_le data address format valued)
      split at treated
      · split at treated
        · cases treated
        · exact combineValue_inRange range hbound treated
      · exact combineValue_inRange range hbound treated

/-- A window whose places read elements of the walk's format. -/
def sizesFit (format : ElementFormat) (window : Vector (Option Place) 4) : Prop :=
  ∀ (k : PlaceId) (p : Place), window[k] = some p → p.size = elementSize format

theorem sizesFit_set_none {format : ElementFormat} {window : Vector (Option Place) 4} (fit : sizesFit format window)
    (k : PlaceId) : sizesFit format (window.set k none) :=
  forall_set (P := fun (_ : PlaceId) (place : Option Place) => ∀ p, place = some p → p.size = elementSize format)
    (fun _ h => nomatch h) fit

/-- The walk goes on with a working accumulator in range and the same sizes (law L7). -/
theorem treatElements_inRange {walk : Walk} {fuel : Nat} {working working' : Option Int} {tallies tallies' : Tallies}
    {window window' : Vector (Option Place) 4} (range : inRange working) (prescale : prescaleSound walk.contribution)
    (fit : sizesFit walk.contribution.descriptor.format window)
    (treated : treatElements walk fuel working tallies window = .goesOn working' tallies' window') :
    inRange working' ∧ sizesFit walk.contribution.descriptor.format window' := by
  induction fuel generalizing working tallies window with
  | zero =>
    cases treated
    exact ⟨range, fit⟩
  | succ fuel ih =>
    unfold treatElements at treated
    split at treated
    · cases treated
      exact ⟨range, fit⟩
    next k p head =>
      split at treated
      · cases treated
        exact ⟨range, fit⟩
      next a _ =>
        have hsize := fit k p (headPlace_inUse head)
        rw [hsize] at treated
        split at treated
        · cases treated
        next recorded =>
          exact ih (treatAnswer_inRange range prescale.1 prescale.2 recorded) (sizesFit_set_none fit k) treated

/-! ### Rounds of all cells -/

/-- A property of every round survives the writing of one cell whose round has it. -/
theorem forall_round_set {P : Round → Prop} {cells : Vector Cell 64} {cell : Cell}
    (all : ∀ (c : CellId) (r : Round), cells[c].round = some r → P r) (new : ∀ r, cell.round = some r → P r) :
    ∀ (d : CellId) (r : Round), (cells.set c cell)[d].round = some r → P r :=
  forall_set (P := fun (_ : CellId) (cell : Cell) => ∀ r, cell.round = some r → P r) new all

theorem forall_round_putRound {P : Round → Prop} {cells : Vector Cell 64} {number : RoundNumber} {q : Round}
    (all : ∀ (c : CellId) (r : Round), cells[c].round = some r → P r) (new : P q) :
    ∀ (d : CellId) (r : Round), (cells.set c { number := number, round := some q })[d].round = some r → P r :=
  forall_round_set all fun r hr => by
    cases hr
    exact new

/-- What a disposition leaves: no round, the next round, or the round in HELD. -/
theorem disposed_round {P : Round → Prop} {number : RoundNumber}
    (next : P (newRound r.opener r.participants r.settings true r.timeout r.destination))
    (held : P { r with phase := .held, contributionNotices := 0, waitNotices := 0 }) (q : Round)
    (round : (disposed number r).round = some q) : P q := by
  unfold disposed at round
  split at round
  · cases round
  split at round
  · cases round
    exact next
  · cases round
    exact held

/-- What a hand-off leaves: the round in PUBLISHING, or what the disposition leaves. -/
theorem handedOn_round {P : Round → Prop} {number : RoundNumber}
    (publishing : P { r with phase := .publishing })
    (next : P (newRound r.opener r.participants r.settings true r.timeout r.destination))
    (held : P { r with
      phase := .held, contributionNotices := 0, waitNotices := 0, publication := some .notWritten }) (q : Round)
    (round : (cellHandedOn number r).round = some q) : P q := by
  unfold cellHandedOn at round
  split at round
  · exact disposed_round (r := { r with publication := some .notWritten }) next held q round
  · cases round
    exact publishing

/-- What a loss leaves of the round of a cell. -/
theorem loseHost_round {P : Round → Prop} {h : HostId} {cell : Cell}
    (all : ∀ r, cell.round = some r → ∀ contribution wait final,
      P { r with contributionNotices := contribution, waitNotices := wait, final := final }) (q : Round)
    (round : (loseHost h cell).round = some q) : P q := by
  unfold loseHost at round
  split at round
  next hnone =>
    rw [hnone] at round
    cases round
  next r hround =>
    split at round
    · cases round
    · cases round
      exact all r hround _ _ _

/-! ### Law L7 -/

/-- Closing a round keeps its accumulator. -/
theorem Closing.accumulator {reports : List WalkReport} {q : Round} (closing : Closing s c r reports q) :
    q.accumulator = r.accumulator := by
  cases closing with
  | early cause =>
    have hsettled := settlePending_eq { r with outcome := some cause, deadline := 0 } .dropped
    show (Round.settlePending _ _).accumulator = _
    rw [hsettled]
  | _ => rfl

/-- Closing a round takes a report away, if any. -/
theorem Closing.reports {reports : List WalkReport} {q : Round} (closing : Closing s c r reports q) :
    reports ⊆ s.walkReports := by
  cases closing with
  | drained => exact List.eraseP_subset
  | _ => exact List.Subset.refl _

theorem RoundChange.accumulator {q : Round} (change : RoundChange s c r q) : q.accumulator = r.accumulator := by
  cases change with
  | drains cause =>
    have hsettled := settlePending_eq { r with outcome := some cause, deadline := 0 } .dropped
    show (Round.settlePending _ _).accumulator = _
    rw [hsettled]
  | _ => rfl

theorem JoinChange.accumulator {h : HostId} {q : Round} (change : JoinChange h r q) : q.accumulator = r.accumulator := by
  cases change <;> rfl

/-- The accumulator after a report is that of the round, or the one that a DONE report carries. -/
theorem ReportChange.accumulator {m : WalkReport} {q : Round} (change : ReportChange s c m r q) :
    q.accumulator = r.accumulator ∨ q.accumulator = reportAccumulator m.kind := by
  cases change with
  | committed done => exact .inr (by rw [done]; rfl)
  | faulted kind index address =>
    refine .inl ?_
    show (Round.settlePending _ _).accumulator = _
    rw [settlePending_eq]
    rfl
  | cutAside => exact .inl rfl

theorem inRange_initial (operation : Operation) : inRange (initialAccumulator operation) := by
  cases operation <;> simp [initialAccumulator, inRange]

theorem walkSound_endedUnit (unit : WalkUnit) (window : Vector (Option Place) 4) : walkSound (endedUnit unit window) := by
  unfold walkSound endedUnit
  cases windowOutstanding window <;> exact ⟨rfl, rfl⟩

/-- An answer recorded in its place leaves the sizes as they are. -/
theorem sizesFit_answered {format : ElementFormat} {window : Vector (Option Place) 4} {k : PlaceId} {place : Place}
    (fit : sizesFit format window) (inUse : window[k] = some place) (a : Answer) :
    sizesFit format (window.set k (some { place with answer := some a })) :=
  forall_set (P := fun (_ : PlaceId) (place : Option Place) => ∀ p, place = some p → p.size = elementSize format)
    (fun p hp => by cases hp; exact fit k place inUse) fit

theorem walkSound_walking {unit : WalkUnit} {walk : Walk} (walking : unit.mode = .walking walk) :
    walkSound unit ↔ inRange unit.working ∧ prescaleSound walk.contribution
      ∧ sizesFit walk.contribution.descriptor.format unit.window := by
  unfold walkSound
  rw [walking]
  rfl

/-- The accumulator that a DONE report carries is in range. -/
theorem WalkEnding.inRange {w : UnitId} {walk : Walk} {answers : Vector (Option Answer) 17}
    {window : Vector (Option Place) 4} {kind : ReportKind} (ending : WalkEnding s w walk answers window kind)
    (sound : Safety.inRange s.units[w].working ∧ prescaleSound walk.contribution
      ∧ sizesFit walk.contribution.descriptor.format s.units[w].window) : Safety.inRange (reportAccumulator kind) := by
  obtain ⟨range, prescale, fit⟩ := sound
  cases ending with
  | cut => exact inRange_none
  | faulted => exact inRange_none
  | done answer inUse treated =>
    exact (treatElements_inRange range prescale (sizesFit_answered fit inUse _) treated).1

theorem change_accumulatorLaw (change : Change i s u) (h : AccumulatorLaw s) : AccumulatorLaw u := by
  obtain ⟨hcells, hentries, hunits, hreports⟩ := h
  have hput : ∀ {c : CellId} {number : RoundNumber} {q : Round}, inRange q.accumulator →
      ∀ (d : CellId) (r : Round), (s.cells.set c { number := number, round := some q })[d].round = some r →
        inRange r.accumulator := fun hq => forall_round_putRound (P := fun r => inRange r.accumulator) hcells hq
  have hunit : ∀ {w : UnitId} {unit : WalkUnit}, walkSound unit → ∀ v : UnitId, walkSound (s.units.set w unit)[v] :=
    fun hnew => forall_set (P := fun (_ : UnitId) (unit : WalkUnit) => walkSound unit) hnew hunits
  cases change with
  | opened c h participants settings => exact ⟨hput (inRange_initial _), hentries, hunits, hreports⟩
  | posted c r e round _ _ _ _ _ prescale =>
    refine ⟨hput (hcells c r round), fun x hx => ?_, hunits, hreports⟩
    rcases List.mem_cons.1 ((insertContribution_perm e s.contributions).subset hx) with rfl | hx
    · exact prescale
    · exact hentries x hx
  | joined c r h round change =>
    exact ⟨hput (change.accumulator ▸ hcells c r round), hentries, hunits, hreports⟩
  | kept c r round change => exact ⟨hput (change.accumulator ▸ hcells c r round), hentries, hunits, hreports⟩
  | withdrawn g =>
    refine ⟨fun c => ?_, hentries, hunits, hreports⟩
    rw [show (s.cells.map (loseHost g))[c] = loseHost g s.cells[c] by simp]
    exact loseHost_round (P := fun r => inRange r.accumulator) fun r hr _ _ _ => hcells c r hr
  | freed c => exact ⟨forall_round_set hcells (fun _ hr => nomatch hr), hentries, hunits, hreports⟩
  | reported c r round collecting found change =>
    refine ⟨hput ?_, hentries, hunits, fun m hm => hreports m (List.eraseP_subset hm)⟩
    rcases change.accumulator with hsame | hreport
    · exact hsame ▸ hcells c r round
    · exact hreport ▸ hreports _ (List.mem_of_find?_eq_some found)
  | closed c r round closing =>
    have hq := closing.accumulator ▸ hcells c r round
    exact ⟨forall_round_set hcells (handedOn_round (P := fun r => inRange r.accumulator) hq
      (by rw [← freshRound_eq]; exact inRange_initial _) hq), hentries, hunits,
      fun m hm => hreports m (closing.reports hm)⟩
  | published c r round =>
    have hr := hcells c r round
    exact ⟨forall_round_set hcells (disposed_round (P := fun r => inRange r.accumulator)
      (by rw [← freshRound_eq]; exact inRange_initial _) hr), hentries, hunits, hreports⟩
  | removed leaves => exact ⟨hcells, fun e he => hentries e (List.mem_of_mem_filter he), hunits, hreports⟩
  | dispatched e r w first idle round =>
    have hr := hcells e.cell r round
    refine ⟨hput hr, fun x hx => hentries x (List.mem_of_mem_eraseP hx), hunit ?_, hreports⟩
    exact (walkSound_walking rfl).2 ⟨hr, hentries e (List.mem_of_find?_eq_some first), by simp [sizesFit, startWalk]⟩
  | walkEnded w walk walking ending =>
    refine ⟨hcells, hentries, hunit (walkSound_endedUnit _ _), fun m hm => ?_⟩
    rcases List.mem_append.1 hm with hm | hm
    · exact hreports m hm
    · rw [List.mem_singleton.1 hm]
      exact ending.inRange ((walkSound_walking walking).1 (hunits w))
  | @walkWentOn w walk k a place working tallies window walking answer inUse treated =>
    obtain ⟨range, prescale, fit⟩ := (walkSound_walking walking).1 (hunits w)
    obtain ⟨range', fit'⟩ := treatElements_inRange range prescale (sizesFit_answered fit inUse _) treated
    exact ⟨hcells, hentries, hunit ((walkSound_walking (unit := { s.units[w] with
      window := window, working := working, tallies := tallies }) walking).2 ⟨range', prescale, fit'⟩), hreports⟩
  | placeDrained w k stopping =>
    refine ⟨hcells, hentries, hunit (unit := drainedUnit s.units[w] k) ?_, hreports⟩
    have hw := hunits w
    unfold walkSound drainedUnit at *
    rw [stopping] at hw
    cases windowEmpty (s.units[w].window.set k none) <;> exact hw
  | readIssued w walk g k ready => 
    obtain ⟨walking, -, -⟩ := readReady_spec ready
    obtain ⟨range, prescale, fit⟩ := (walkSound_walking walking).1 (hunits w)
    refine ⟨hcells, hentries, hunit (unit := issuedUnit s.units[w] s.strides walk g k) ?_, hreports⟩
    refine (walkSound_walking (unit := issuedUnit s.units[w] s.strides walk g k) walking).2 ⟨range, prescale, ?_⟩
    exact forall_set (P := fun (_ : PlaceId) (place : Option Place) =>
      ∀ p, place = some p → p.size = elementSize walk.contribution.descriptor.format) (fun p hp => by cases hp; rfl) fit
  | restarted =>
    refine ⟨fun c r hr => ?_, (fun _ he => nomatch he), fun w => ?_, (fun _ hm => nomatch hm)⟩
    · simp [State.resetBlocks, State.reset, Cell.reset] at hr
    · simp [State.resetBlocks, State.reset, WalkUnit.reset, walkSound]
  | _ => exact ⟨hcells, hentries, hunits, hreports⟩

/-! ### Outcomes -/

/-- A round about to be handed on: it has an outcome, a result, and a fault record exactly when FAULTED. -/
def endSound (r : Round) : Prop :=
  r.outcome ≠ none ∧ (r.fault ≠ none ↔ r.outcome = some .faulted) ∧ r.result ≠ none
    ∧ ∀ res v, r.result = some res → res.value = some v →
      r.outcome = some .complete ∧ -(widthMax r.settings.width) ≤ v ∧ v ≤ widthMax r.settings.width

theorem outcomeSound_ended {q : Round} (ended : endSound q) (phase : q.phase = .publishing ∨ q.phase = .held) :
    outcomeSound q := by
  obtain ⟨houtcome, hfault, hresult, hvalue⟩ := ended
  unfold outcomeSound
  rcases phase with hp | hp <;> simp only [hp] <;>
    exact ⟨by simp [houtcome], by simp, by simp, hfault, by simp [hresult], hvalue⟩

theorem endSound_of_outcomeSound (sound : outcomeSound r) (phase : r.phase = .publishing ∨ r.phase = .held) :
    endSound r := by
  obtain ⟨houtcome, -, -, hfault, hresult, hvalue⟩ := sound
  refine ⟨fun hnone => ?_, hfault, hresult.2 phase, hvalue⟩
  have := houtcome.1 hnone
  rcases phase with hp | hp <;> cases this.symm.trans hp

/-- The output stage gives a value within the output width (R16). -/
theorem outputStage_range {settings : Settings} {accumulator value : Option Int} {t t' : Tallies} {v : Int}
    (stage : outputStage settings accumulator t = .result value t') (hv : value = some v) :
    -(widthMax settings.width) ≤ v ∧ v ≤ widthMax settings.width := by
  have hcheck : ∀ {x : Int} {t : Tallies}, rangeCheck settings x t = .result value t' →
      -(widthMax settings.width) ≤ v ∧ v ≤ widthMax settings.width := by
    intro x t check
    have hmax := widthMax_nonneg settings.width
    unfold rangeCheck at check
    split at check
    next hin =>
      cases check
      cases hv
      exact hin
    split at check
    · cases check
      cases hv
      split <;> omega
    · cases check
  unfold outputStage at stage
  split at stage
  · cases stage
    cases hv
  split at stage
  · exact hcheck stage
  split at stage
  · exact hcheck stage
  split at stage
  · cases stage
  · exact hcheck stage

theorem endSound_shut (outcome : r.outcome ≠ none) (fault : r.fault ≠ none ↔ r.outcome = some .faulted) :
    endSound (shutRound r) :=
  ⟨outcome, fault, by simp [shutRound], fun res v hres hv => by cases hres; cases hv⟩

/-- In COLLECTING a round has no outcome, no fault record and no result. -/
theorem outcomeSound_collecting (sound : outcomeSound r) (collecting : r.phase = .collecting) :
    r.outcome = none ∧ r.fault = none ∧ r.result = none := by
  obtain ⟨houtcome, -, -, hfault, hresult, -⟩ := sound
  have hnone := houtcome.2 collecting
  refine ⟨hnone, ?_, ?_⟩
  · by_contra hne
    rw [hnone] at hfault
    cases hfault.1 hne
  · by_contra hne
    rcases hresult.1 hne with hp | hp <;> cases collecting.symm.trans hp

theorem Closing.endSound {reports : List WalkReport} {q : Round} (closing : Closing s c r reports q)
    (sound : outcomeSound r) : Machine.endSound q := by
  cases closing with
  | early cause early collecting =>
    obtain ⟨-, hfault, -⟩ := outcomeSound_collecting sound collecting
    refine endSound_shut ?_ ?_ <;> rw [settlePending_eq] <;> simp [hfault, early.2]
  | absorbing absorbing =>
    obtain ⟨-, habsorbing, -, hfault, -⟩ := sound
    exact endSound_shut (by simp [habsorbing absorbing]) hfault
  | clean collecting noWalk all stage =>
    obtain ⟨-, hfault, -⟩ := outcomeSound_collecting sound collecting
    refine ⟨by simp, by simp [hfault], by simp, fun res v hres hv => ?_⟩
    cases hres
    exact ⟨rfl, outputStage_range stage hv⟩
  | cleanFault collecting => exact endSound_shut (by simp) (by simp)
  | drained draining =>
    obtain ⟨houtcome, -, -, hfault, -⟩ := sound
    refine endSound_shut (fun hnone => ?_) hfault
    cases draining.symm.trans (houtcome.1 hnone)

theorem outcomeSound_collecting_of (collecting : r.phase = .collecting) (outcome : r.outcome = none)
    (fault : r.fault = none) (result : r.result = none) : outcomeSound r := by
  simp [outcomeSound, collecting, outcome, fault, result]

theorem outcomeSound_fresh (opener : HostId) (participants : HostSet) (settings : Settings) (repeats final : Bool)
    (timeout : Nat) (destination : Option Addr) :
    outcomeSound (freshRound opener participants settings repeats final timeout destination) :=
  outcomeSound_collecting_of rfl rfl rfl rfl

theorem RoundChange.outcomeSound {q : Round} (change : RoundChange s c r q) (sound : Safety.outcomeSound r) :
    Safety.outcomeSound q := by
  cases change with
  | finalSet => exact sound
  | counted => exact sound
  | drains cause early collecting =>
    obtain ⟨-, hfault, hresult⟩ := outcomeSound_collecting sound collecting
    rw [settlePending_eq]
    simp [Safety.outcomeSound, hfault, hresult, early.1, early.2]

theorem ReportChange.outcomeSound {m : WalkReport} {q : Round} (change : ReportChange s c m r q)
    (collecting : r.phase = .collecting) (sound : Safety.outcomeSound r) : Safety.outcomeSound q := by
  obtain ⟨houtcome, hfault, hresult⟩ := outcomeSound_collecting sound collecting
  cases change with
  | committed => exact outcomeSound_collecting_of collecting houtcome hfault hresult
  | faulted kind index address =>
    rw [settlePending_eq]
    simp [Safety.outcomeSound, Round.clearWalk, Round.arrive, hresult]
  | cutAside => exact outcomeSound_collecting_of collecting houtcome hfault hresult

theorem JoinChange.outcomeSound {h : HostId} {q : Round} (change : JoinChange h r q) (sound : Safety.outcomeSound r) :
    Safety.outcomeSound q := by
  cases change <;> exact sound

theorem change_outcomeLaw (change : Change i s u) (h : OutcomeLaw s) : OutcomeLaw u := by
  have hput : ∀ {c : CellId} {number : RoundNumber} {q : Round}, outcomeSound q →
      ∀ (d : CellId) (r : Round), (s.cells.set c { number := number, round := some q })[d].round = some r →
        outcomeSound r := fun hq => forall_round_putRound h hq
  cases change with
  | opened => exact hput (outcomeSound_fresh _ _ _ _ _ _ _)
  | posted c r e round =>
    have hr := h c r round
    exact hput hr
  | joined c r g round change => exact hput (change.outcomeSound (h c r round))
  | kept c r round change => exact hput (change.outcomeSound (h c r round))
  | withdrawn g =>
    intro c
    rw [show (s.cells.map (loseHost g))[c] = loseHost g s.cells[c] by simp]
    exact loseHost_round fun r hr _ _ _ => h c r hr
  | freed c => exact forall_round_set h (fun _ hr => nomatch hr)
  | reported c r round collecting found change => exact hput (change.outcomeSound collecting (h c r round))
  | closed c r round closing =>
    have hq := closing.endSound (h c r round)
    exact forall_round_set h (handedOn_round (outcomeSound_ended hq (.inl rfl))
      (by rw [← freshRound_eq]; exact outcomeSound_fresh _ _ _ _ _ _ _) (outcomeSound_ended hq (.inr rfl)))
  | published c r round publishing =>
    have hr := endSound_of_outcomeSound (h c r round) (.inl publishing)
    exact forall_round_set h (disposed_round
      (by rw [← freshRound_eq]; exact outcomeSound_fresh _ _ _ _ _ _ _) (outcomeSound_ended hr (.inr rfl)))
  | dispatched e r w first idle round =>
    have hr := h e.cell r round
    exact hput hr
  | restarted => exact fun c r hr => by simp [State.resetBlocks, State.reset, Cell.reset] at hr
  | _ => exact h

/-! ### Deadline timers -/

theorem deadlineSound_stopped (stopped : deadlineRuns r = false) (deadline : r.deadline = 0) : deadlineSound r := by
  rw [deadlineSound, if_neg (by simp [stopped])]
  exact deadline

theorem deadlineRuns_phase (phase : r.phase ≠ .collecting ∧ r.phase ≠ .absorbing) : deadlineRuns r = false := by
  simp [deadlineRuns, phase]

theorem Closing.deadline {reports : List WalkReport} {q : Round} (closing : Closing s c r reports q) : q.deadline = 0 := by
  cases closing <;> rfl

theorem deadlineSound_fresh (opener : HostId) (participants : HostSet) (settings : Settings) (repeats final : Bool)
    (timeout : Nat) (destination : Option Addr) :
    deadlineSound (freshRound opener participants settings repeats final timeout destination) := by
  unfold deadlineSound deadlineRuns freshRound
  split
  next runs =>
    simp only [Bool.and_eq_true, decide_eq_true_eq] at runs
    dsimp only
    omega
  next stops => simpa using stops

theorem RoundChange.deadlineSound {q : Round} (change : RoundChange s c r q) (sound : Safety.deadlineSound r) :
    Safety.deadlineSound q := by
  cases change with
  | finalSet => exact sound
  | counted runs left =>
    rw [Safety.deadlineSound, if_pos runs] at sound
    rw [Safety.deadlineSound, if_pos (show deadlineRuns { r with deadline := r.deadline - 1 } = true from runs)]
    dsimp only
    omega
  | drains cause =>
    refine deadlineSound_stopped (deadlineRuns_phase (by simp)) ?_
    rw [settlePending_eq]

theorem ReportChange.deadlineSound {m : WalkReport} {q : Round} (change : ReportChange s c m r q)
    (collecting : r.phase = .collecting) (sound : Safety.deadlineSound r) : Safety.deadlineSound q := by
  cases change with
  | faulted kind index address =>
    rw [settlePending_eq]
    unfold Safety.deadlineSound deadlineRuns at *
    simpa [Round.clearWalk, Round.arrive, collecting] using sound
  | _ => exact sound

theorem JoinChange.deadlineSound {h : HostId} {q : Round} (change : JoinChange h r q) (sound : Safety.deadlineSound r) :
    Safety.deadlineSound q := by
  cases change <;> exact sound

theorem change_deadlineLaw (change : Change i s u) (h : DeadlineLaw s) : DeadlineLaw u := by
  have hput : ∀ {c : CellId} {number : RoundNumber} {q : Round}, deadlineSound q →
      ∀ (d : CellId) (r : Round), (s.cells.set c { number := number, round := some q })[d].round = some r →
        deadlineSound r := fun hq => forall_round_putRound h hq
  cases change with
  | opened => exact hput (deadlineSound_fresh _ _ _ _ _ _ _)
  | posted c r e round =>
    have hr := h c r round
    exact hput hr
  | joined c r g round change => exact hput (change.deadlineSound (h c r round))
  | kept c r round change => exact hput (change.deadlineSound (h c r round))
  | withdrawn g =>
    intro c
    rw [show (s.cells.map (loseHost g))[c] = loseHost g s.cells[c] by simp]
    exact loseHost_round fun r hr _ _ _ => h c r hr
  | freed c => exact forall_round_set h (fun _ hr => nomatch hr)
  | reported c r round collecting found change => exact hput (change.deadlineSound collecting (h c r round))
  | closed c r round closing =>
    exact forall_round_set h (handedOn_round
      (deadlineSound_stopped (deadlineRuns_phase (by simp)) closing.deadline)
      (by rw [← freshRound_eq]; exact deadlineSound_fresh _ _ _ _ _ _ _)
      (deadlineSound_stopped (deadlineRuns_phase (by simp)) closing.deadline))
  | published c r round publishing =>
    have hr := h c r round
    rw [deadlineSound, if_neg (by simp [deadlineRuns_phase, publishing])] at hr
    exact forall_round_set h (disposed_round
      (by rw [← freshRound_eq]; exact deadlineSound_fresh _ _ _ _ _ _ _)
      (deadlineSound_stopped (deadlineRuns_phase (by simp)) hr))
  | dispatched e r w first idle round =>
    have hr := h e.cell r round
    exact hput hr
  | restarted => exact fun c r hr => by simp [State.resetBlocks, State.reset, Cell.reset] at hr
  | _ => exact h

/-! ### Results -/

/-- What the result law says of a round. -/
def resultFits (r : Round) : Prop :=
  presenceSound r.settings.combine.operation r.accumulator r.tallies ∧ resultSound r

/-- What the result law says of a unit, for the cells given. -/
def workingFits (cells : Vector Cell 64) (unit : WalkUnit) : Prop :=
  ∀ walk, unit.mode = .walking walk → ∀ r, cells[walk.contribution.cell].round = some r →
    walk.settings = r.settings.combine ∧ presenceSound r.settings.combine.operation unit.working unit.tallies

/-- What the result law says of a report, for the cells given. -/
def reportFits (cells : Vector Cell 64) (m : WalkReport) : Prop :=
  ∀ acc t, m.kind = .done acc t → ∀ r, cells[m.cell].round = some r →
    presenceSound r.settings.combine.operation acc t

theorem resultLaw_iff (s : State) :
    ResultLaw s ↔ (∀ (c : CellId) (r : Round), s.cells[c].round = some r → resultFits r)
      ∧ (∀ w : UnitId, workingFits s.cells s.units[w]) ∧ ∀ m ∈ s.walkReports, reportFits s.cells m := Iff.rfl

theorem presenceSound_some {operation : Operation} {a : Int} {t : Tallies} (combined : t.combined ≠ 0) :
    presenceSound operation (some a) t := by
  simp [presenceSound, combined]

/-- Combining leaves an accumulator, and one element more combined. -/
theorem combineValue_presence {settings : CombineSettings} {accumulator working : Option Int} {v : Int} {t t' : Tallies}
    (combined : combineValue settings accumulator v t = .recorded working t') :
    presenceSound settings.operation working t' := by
  unfold combineValue combineSum at combined
  split at combined
  next =>
    dsimp only at combined
    split at combined
    · cases combined
      exact presenceSound_some (by simp)
    split at combined
    · cases combined
      exact presenceSound_some (by simp)
    · cases combined
      exact presenceSound_some (by simp)
    · cases combined
  next =>
    cases combined
    exact presenceSound_some (by simp)
  next =>
    cases combined
    exact presenceSound_some (by simp)

theorem treatAnswer_presence {settings : CombineSettings} {format : ElementFormat} {prescale : Int}
    {accumulator working : Option Int} {t t' : Tallies} {address : Addr} {size : Nat} {answer : Answer}
    (presence : presenceSound settings.operation accumulator t)
    (treated : treatAnswer settings format prescale accumulator t address size answer = .recorded working t') :
    presenceSound settings.operation working t' := by
  cases answer with
  | error => cases treated
  | timeout => cases treated
  | ok data =>
    unfold treatAnswer treatElement at treated
    dsimp only at treated
    split at treated
    · split at treated
      · cases treated
        exact presence
      · cases treated
    split at treated
    · split at treated
      · cases treated
      · exact combineValue_presence treated
    · exact combineValue_presence treated

theorem treatElements_presence {walk : Walk} {fuel : Nat} {working working' : Option Int} {tallies tallies' : Tallies}
    {window window' : Vector (Option Place) 4} (presence : presenceSound walk.settings.operation working tallies)
    (treated : treatElements walk fuel working tallies window = .goesOn working' tallies' window') :
    presenceSound walk.settings.operation working' tallies' := by
  induction fuel generalizing working tallies window with
  | zero =>
    cases treated
    exact presence
  | succ fuel ih =>
    unfold treatElements at treated
    split at treated
    · cases treated
      exact presence
    next k p head =>
      split at treated
      · cases treated
        exact presence
      next a _ =>
        split at treated
        · cases treated
        next recorded => exact ih (treatAnswer_presence presence recorded) treated

/-- The output stage gives a VOID result exactly for an absent accumulator, and combines nothing (R14, R17). -/
theorem outputStage_presence {settings : Settings} {accumulator value : Option Int} {t t' : Tallies}
    (stage : outputStage settings accumulator t = .result value t') :
    (value = none ↔ accumulator = none) ∧ t'.combined = t.combined := by
  have hcheck : ∀ {a x : Int} {t₁ : Tallies}, rangeCheck settings x t₁ = .result value t' →
      t₁.combined = t.combined → (value = none ↔ some a = none) ∧ t'.combined = t.combined := by
    intro a x t₁ check same
    unfold rangeCheck at check
    split at check
    · cases check
      exact ⟨by simp, same⟩
    split at check
    · cases check
      exact ⟨by simp, same⟩
    · cases check
  unfold outputStage at stage
  split at stage
  · cases stage
    exact ⟨by simp, rfl⟩
  split at stage
  · exact hcheck stage rfl
  split at stage
  · exact hcheck stage rfl
  split at stage
  · cases stage
  · exact hcheck stage rfl

theorem resultFits_fresh (opener : HostId) (participants : HostSet) (settings : Settings) (repeats final : Bool)
    (timeout : Nat) (destination : Option Addr) :
    resultFits (freshRound opener participants settings repeats final timeout destination) := by
  refine ⟨?_, fun _ h => nomatch h⟩
  unfold presenceSound freshRound
  cases settings.combine.operation <;> simp [initialAccumulator, Tallies.zero]

theorem resultSound_none (result : r.result = none) : resultSound r := fun res hres => by
  rw [result] at hres
  cases hres

/-- A round that is shut with an outcome other than COMPLETE has a VOID result. -/
theorem resultFits_shut (presence : presenceSound r.settings.combine.operation r.accumulator r.tallies)
    (outcome : r.outcome ≠ some .complete) : resultFits (shutRound r) :=
  ⟨presence, fun res hres => by cases hres; simp [shutRound, outcome]⟩

/-- A round that is handed on meets the result law, with the settings it had. -/
theorem Closing.resultFits {reports : List WalkReport} {q : Round} (closing : Closing s c r reports q)
    (outcome : outcomeSound r) (fits : Machine.resultFits r) : Machine.resultFits q ∧ q.settings = r.settings := by
  obtain ⟨presence, -⟩ := fits
  cases closing with
  | early cause early =>
    rw [settlePending_eq]
    exact ⟨resultFits_shut presence (by simpa using early.1), rfl⟩
  | absorbing absorbing =>
    obtain ⟨-, habsorbing, -⟩ := outcome
    exact ⟨resultFits_shut presence (by simp [habsorbing absorbing]), rfl⟩
  | @clean value t collecting noWalk all stage =>
    obtain ⟨hvalue, hcombined⟩ := outputStage_presence stage
    refine ⟨⟨?_, fun res hres => ?_⟩, rfl⟩
    · simpa [presenceSound, hcombined] using presence
    · cases hres
      simpa [presenceSound, hvalue, roundFlags, hcombined, and_comm] using presence
  | cleanFault => exact ⟨resultFits_shut presence (by simp), rfl⟩
  | drained draining =>
    obtain ⟨-, -, hdraining, -⟩ := outcome
    exact ⟨resultFits_shut presence (hdraining draining).1, rfl⟩

theorem RoundChange.resultFits {q : Round} (change : RoundChange s c r q) (outcome : Safety.outcomeSound r)
    (fits : Machine.resultFits r) : Machine.resultFits q ∧ q.settings = r.settings := by
  cases change with
  | drains cause early collecting =>
    obtain ⟨-, -, hresult⟩ := outcomeSound_collecting outcome collecting
    rw [settlePending_eq]
    exact ⟨⟨fits.1, resultSound_none hresult⟩, rfl⟩
  | _ => exact ⟨fits, rfl⟩

theorem JoinChange.resultFits {h : HostId} {q : Round} (change : JoinChange h r q) (fits : Machine.resultFits r) :
    Machine.resultFits q ∧ q.settings = r.settings := by
  cases change <;> exact ⟨fits, rfl⟩

theorem ReportChange.resultFits {m : WalkReport} {q : Round} (change : ReportChange s c m r q)
    (collecting : r.phase = .collecting) (outcome : Safety.outcomeSound r) (fits : Machine.resultFits r)
    (report : ∀ acc t, m.kind = .done acc t → presenceSound r.settings.combine.operation acc t) :
    Machine.resultFits q ∧ q.settings = r.settings := by
  obtain ⟨-, -, hresult⟩ := outcomeSound_collecting outcome collecting
  cases change with
  | committed done => exact ⟨⟨report _ _ done, resultSound_none hresult⟩, rfl⟩
  | faulted =>
    rw [settlePending_eq]
    exact ⟨⟨fits.1, resultSound_none hresult⟩, rfl⟩
  | cutAside => exact ⟨fits, rfl⟩

theorem mem_unitTokens {units : Vector WalkUnit 4} {w : UnitId} {token : WalkToken} (walk : token ∈ unitToken units[w]) :
    token ∈ unitTokens units :=
  List.mem_flatMap.2 ⟨w, (by decide : ∀ w : UnitId, w ∈ unitOrder) w, walk⟩

/-- The cell of a walk in WALKING has a walk. -/
theorem cellTokens_walking {w : UnitId} {walk : Walk} (walking : s.units[w].mode = .walking walk) :
    cellTokens s walk.contribution.cell ≠ [] := by
  refine List.ne_nil_of_mem (a := (walk.contribution.cell, walk.contribution.round, walk.contribution.host)) ?_
  refine List.mem_filter.2 ⟨?_, by simp⟩
  rw [walkTokens_eq]
  exact List.mem_append_left _ (mem_unitTokens (w := w) (by rw [unitToken, walking]; exact List.mem_singleton_self _))

/-- The cell of a report has a walk. -/
theorem cellTokens_reported {m : WalkReport} (sent : m ∈ s.walkReports) : cellTokens s m.cell ≠ [] := by
  refine List.ne_nil_of_mem (a := reportToken m) (List.mem_filter.2 ⟨?_, by simp [reportToken]⟩)
  rw [walkTokens_eq]
  exact List.mem_append_right _ (List.mem_map_of_mem sent)

/-- A round keeps the combining settings of the round its cell held, or its cell has no walk. -/
def settingsKept (s t : State) (c : CellId) (q : Round) : Prop :=
  (∃ r, s.cells[c].round = some r ∧ q.settings.combine = r.settings.combine) ∨ cellTokens t c = []

/-- The result law after a change of cells. -/
theorem resultLaw_cells (h : ResultLaw s) (units : t.units = s.units) (reports : t.walkReports ⊆ s.walkReports)
    (cells : ∀ (c : CellId) (q : Round), t.cells[c].round = some q → resultFits q ∧ settingsKept s t c q) :
    ResultLaw t := by
  obtain ⟨-, hunits, hreports⟩ := (resultLaw_iff s).1 h
  refine (resultLaw_iff t).2 ⟨fun c q hq => (cells c q hq).1, fun w walk walking q hq => ?_, fun m hm acc ts hk q hq => ?_⟩
  · rcases (cells _ q hq).2 with ⟨r, hr, hsettings⟩ | hnil
    · rw [units] at walking ⊢
      rw [hsettings]
      exact hunits w walk walking r hr
    · exact absurd hnil (cellTokens_walking walking)
  · rcases (cells _ q hq).2 with ⟨r, hr, hsettings⟩ | hnil
    · rw [hsettings]
      exact hreports m (reports hm) acc ts hk r hr
    · exact absurd hnil (cellTokens_reported hm)

/-- The result law after the change of one cell. -/
theorem resultLaw_set {cell : Cell} (h : ResultLaw s) (units : t.units = s.units)
    (reports : t.walkReports ⊆ s.walkReports) (cells : t.cells = s.cells.set c cell)
    (new : ∀ q, cell.round = some q → resultFits q ∧ settingsKept s t c q) : ResultLaw t := by
  refine resultLaw_cells h units reports fun d q hq => ?_
  rw [cells] at hq
  by_cases hd : c = d
  · subst hd
    rw [set_same] at hq
    exact new q hq
  · rw [set_other _ _ _ _ hd] at hq
    exact ⟨h.1 d q hq, .inl ⟨q, hq, rfl⟩⟩

/-- The result law after the writing of a round with the settings of the cell's last. -/
theorem resultLaw_putRound {q : Round} {number : RoundNumber} (h : ResultLaw s) (units : t.units = s.units)
    (reports : t.walkReports ⊆ s.walkReports) (round : s.cells[c].round = some r)
    (cells : t.cells = s.cells.set c { number := number, round := some q })
    (new : resultFits q ∧ q.settings = r.settings) : ResultLaw t :=
  resultLaw_set h units reports cells fun q hq => by
    cases hq
    exact ⟨new.1, .inl ⟨r, round, by rw [new.2]⟩⟩

/-- The result law after a unit's change. -/
theorem resultLaw_putUnit {w : UnitId} {unit : WalkUnit} (h : ResultLaw s) (cells : t.cells = s.cells)
    (units : t.units = s.units.set w unit) (new : workingFits s.cells unit)
    (reports : ∀ m ∈ t.walkReports, m ∈ s.walkReports ∨ reportFits s.cells m) : ResultLaw t := by
  obtain ⟨hcells, hunits, hreports⟩ := (resultLaw_iff s).1 h
  refine (resultLaw_iff t).2 ⟨cells ▸ hcells, ?_, fun m hm => ?_⟩
  · rw [cells, units]
    exact forall_set (P := fun (_ : UnitId) (unit : WalkUnit) => workingFits s.cells unit) new hunits
  · rw [cells]
    exact (reports m hm).elim (hreports m) id

/-- A unit outside WALKING holds nothing that the result law speaks of. -/
theorem workingFits_ended (cells : Vector Cell 64) (unit : WalkUnit) (window : Vector (Option Place) 4) :
    workingFits cells (endedUnit unit window) := fun walk walking => by
  unfold endedUnit at walking
  cases hout : windowOutstanding window <;> simp [hout] at walking

theorem change_resultLaw (change : Change i s u) (rounds : RoundLaw s) (outcomes : OutcomeLaw s) (h : ResultLaw s) :
    ResultLaw u := by
  have hall : s.walkReports ⊆ s.walkReports := List.Subset.refl _
  cases change with
  | opened c g participants settings repeats timeout destination free =>
    refine resultLaw_set h rfl hall rfl fun q hq => ?_
    cases hq
    have hquiet := (roundLaw_iff s).1 rounds c
    rw [free] at hquiet
    exact ⟨resultFits_fresh _ _ _ _ _ _ _, .inr hquiet.1⟩
  | posted c r e round => exact resultLaw_putRound h rfl hall round rfl ⟨h.1 c r round, rfl⟩
  | joined c r g round change => exact resultLaw_putRound h rfl hall round rfl (change.resultFits (h.1 c r round))
  | kept c r round change =>
    exact resultLaw_putRound h rfl hall round rfl (change.resultFits (outcomes c r round) (h.1 c r round))
  | withdrawn g =>
    refine resultLaw_cells h rfl hall fun c => ?_
    rw [show (s.cells.map (loseHost g))[c] = loseHost g s.cells[c] by simp]
    exact loseHost_round fun r hr _ _ _ => ⟨h.1 c r hr, .inl ⟨r, hr, rfl⟩⟩
  | freed c r round held => exact resultLaw_set h rfl hall rfl fun q hq => nomatch hq
  | @reported c r kind m q round collecting found change =>
    have hmem := List.mem_of_find?_eq_some found
    have hcell := (report_tokens found rfl (t := { s with
      walkReports := s.walkReports.eraseP (reportFor c kind) }) rfl).1
    refine resultLaw_putRound h rfl List.eraseP_subset round rfl
      (change.resultFits collecting (outcomes c r round) (h.1 c r round) fun acc t hk => ?_)
    subst hcell
    exact h.2.2 m hmem acc t hk r round
  | @closed c r reports q round closing =>
    obtain ⟨hfits, -⟩ := closing.resultFits (outcomes c r round) (h.1 c r round)
    obtain ⟨-, hnil, -⟩ := closing_over rounds round closing rfl rfl (t := { s with walkReports := reports })
    refine resultLaw_set h rfl closing.reports rfl fun q' hq' => ⟨?_, .inr hnil⟩
    exact handedOn_round hfits (by rw [← freshRound_eq]; exact resultFits_fresh _ _ _ _ _ _ _) hfits q' hq'
  | @published c r m round publishing =>
    obtain ⟨-, hnil, -⟩ := roundLaw_quiet rounds round (.inr (.inl publishing))
    have hfits : resultFits { r with publication := some m.status } := h.1 c r round
    refine resultLaw_set h rfl hall rfl fun q' hq' => ⟨?_, .inr hnil⟩
    exact disposed_round (by rw [← freshRound_eq]; exact resultFits_fresh _ _ _ _ _ _ _) hfits q' hq'
  | dispatched e r w first idle round =>
    have hcells : ResultLaw (s.putRound e.cell { r with walkInFlight := some w, inFlightHost := some e.host }) :=
      resultLaw_putRound h rfl hall round rfl ⟨h.1 e.cell r round, rfl⟩
    refine resultLaw_putUnit hcells rfl rfl (fun walk walking q hq => ?_) fun m hm => .inl hm
    cases walking
    rw [show (s.putRound e.cell _).cells[e.cell] = _ from set_same _ _ _] at hq
    cases hq
    exact ⟨rfl, (h.1 e.cell r round).1⟩
  | walkEnded w walk walking ending =>
    refine resultLaw_putUnit h rfl rfl (workingFits_ended _ _ _) fun m hm => ?_
    rcases List.mem_append.1 hm with hm | hm
    · exact .inl hm
    refine .inr fun acc t hk r hr => ?_
    rw [List.mem_singleton.1 hm] at hk hr
    obtain ⟨hsettings, hpresence⟩ := h.2.1 w walk walking r hr
    cases ending with
    | done answer inUse treated =>
      cases hk
      rw [← hsettings] at hpresence ⊢
      exact treatElements_presence hpresence treated
    | _ => cases hk
  | @walkWentOn w walk k a place working tallies window walking answer inUse treated =>
    refine resultLaw_putUnit h rfl rfl (fun walk' walking' r hr => ?_) fun m hm => .inl hm
    obtain rfl : walk = walk' := by
      have : s.units[w].mode = .walking walk' := walking'
      rw [walking] at this
      exact UnitMode.walking.inj this
    obtain ⟨hsettings, hpresence⟩ := h.2.1 w walk walking r hr
    refine ⟨hsettings, ?_⟩
    rw [← hsettings] at hpresence ⊢
    exact treatElements_presence hpresence treated
  | placeDrained w k stopping =>
    refine resultLaw_putUnit (unit := drainedUnit s.units[w] k) h rfl rfl (fun walk walking => ?_) fun m hm => .inl hm
    unfold drainedUnit at walking
    dsimp only at walking
    split at walking <;> cases walking
  | readIssued w walk g k =>
    exact resultLaw_putUnit (unit := issuedUnit s.units[w] s.strides walk g k) h rfl rfl (h.2.1 w) fun m hm => .inl hm
  | restarted =>
    refine ⟨fun c r hr => ?_, fun w walk walking => ?_, (fun _ hm => nomatch hm)⟩
    · simp [State.resetBlocks, State.reset, Cell.reset] at hr
    · simp [State.resetBlocks, State.reset, WalkUnit.reset] at walking
  | _ => exact h

/-- Settles O56: laws L7 and L6 and the deadline law are kept by every change, and so by every step. -/
theorem stepKeepsTheArithmeticLaws : Obligations.StepKeepsTheArithmeticLaws := by
  unfold Obligations.StepKeepsTheArithmeticLaws
  intro s t next
  refine ⟨fun h => step_keeps next change_accumulatorLaw fun _ => h,
    fun h => step_keeps next change_outcomeLaw fun _ => h, fun h => step_keeps next change_deadlineLaw fun _ => h,
    fun rounds outcomes results => ?_⟩
  have hall := step_keeps (P := fun s => RoundLaw s ∧ OutcomeLaw s ∧ ResultLaw s) next
    (fun change ⟨rounds, outcomes, results⟩ => ⟨change_roundLaw change rounds, change_outcomeLaw change outcomes,
      change_resultLaw change rounds outcomes results⟩) fun _ => ⟨rounds, outcomes, results⟩
  exact hall.2.2

end Sys2Proof.Machine
end

section
/-! Proofs about the queue of commands, the Timebase, the device reset and the state after reset. -/

namespace Sys2Proof.Machine

open Sys2Proof.Safety

variable {s t u : State}

/-! ### The queue and the clock -/

/-- Settles O1: `step` is `exec` on the command at the front. -/
theorem stepTakesTheFrontCommand : Obligations.StepTakesTheFrontCommand := by
  intro s i rest pending
  rw [step, pending]

theorem step_empty (pending : s.pending = []) : step s = completed s.clockPeriod := by
  rw [step, pending]

/-- A completed microsecond is one tick for every timer (R174). -/
theorem issueTick_spec (s : State) :
    s.issueTick = { s with
        tickCounter := 0, deadlineTicks := s.issueTick.deadlineTicks, responseTicks := s.issueTick.responseTicks }
      ∧ (∀ c : CellId, s.issueTick.deadlineTicks[c] = s.deadlineTicks[c] + 1)
      ∧ ∀ k : SlotId, s.issueTick.responseTicks[k] = s.responseTicks[k] + 1 := by
  refine ⟨rfl, fun c => ?_, fun k => ?_⟩ <;> simp [State.issueTick]

/-- Settles O3: held in reset, below the last period, and at it, the three branches of the clock period. -/
theorem emptyQueueCountsOneClockPeriod : Obligations.EmptyQueueCountsOneClockPeriod := by
  intro s pending
  rw [step_empty pending, State.clockPeriod]
  refine ⟨fun held => ?_, fun runs below => ?_, fun runs last => ⟨s.issueTick, ?_, issueTick_spec s⟩⟩
  · rw [if_pos held, completed]
  · rw [if_neg (by simp [runs]), if_pos below, completed]
  · rw [if_neg (by simp [runs]), if_neg (by omega), completed]

/-- Settles O50: TICK is a completed microsecond, and the release holds the straps to 20 to 100 periods. -/
theorem tickAndReleaseOfTheTimebase : Obligations.TickAndReleaseOfTheTimebase := by
  intro s
  refine ⟨fun runs => ⟨s.issueTick, ?_, issueTick_spec s⟩, fun straps held => ?_⟩
  · show execTick s = _
    rw [execTick, if_neg (by simp [runs]), completed]
  · show execDeviceResetRelease straps s = _
    have hperiods : selectedPeriods straps = max 20 (min 100 straps.toNat) := by
      unfold selectedPeriods
      grind
    rw [execDeviceResetRelease, if_pos held, completed, hperiods]

/-! ### Reset -/

/-- Settles O51: what `resetBlocks` leaves of each block; the two rows add the epoch, the input and the periods. -/
theorem deviceResetReturnsEveryBlock : Obligations.DeviceResetReturnsEveryBlock := by
  intro s blocks
  have hblocks : ∀ (epoch deviceReset : Bool) (periods : Nat),
      blocks { s.resetBlocks with epoch := epoch, deviceReset := deviceReset, periods := periods } := by
    intro epoch deviceReset periods
    refine ⟨fun c => ?_, fun h => ?_, fun e => ?_, fun w => ?_, fun k => ?_, rfl, rfl, rfl, rfl, rfl, rfl, rfl, rfl, rfl,
      rfl, rfl, rfl, rfl, rfl, rfl⟩ <;>
      simp [State.resetBlocks, State.reset, Cell.reset, HostPort.reset, CompletionQueue.reset, StrideEntry.reset,
        WalkUnit.reset, Tallies.zero, TagSlot.reset]
  refine ⟨fun runs => ⟨_, ?_, hblocks (!s.epoch) true s.periods, rfl, rfl, rfl⟩,
    ⟨_, ?_, hblocks false s.deviceReset Config.powerUpPeriods, rfl, rfl, rfl⟩⟩
  · show execDeviceReset s = _
    rw [execDeviceReset, if_neg (by simp [runs])]
    rfl
  · rfl

section Reset

variable (h : HostId) (c : CellId) (e : StrideId) (w : UnitId) (k : SlotId)

theorem reset_ports : State.reset.ports[h] = HostPort.reset := by simp [State.reset]

theorem reset_queues : State.reset.queues[h] = CompletionQueue.reset := by simp [State.reset]

theorem reset_round : State.reset.cells[c].round = none := by simp [State.reset, Cell.reset]

theorem reset_strides : State.reset.strides[e] = StrideEntry.reset := by simp [State.reset]

theorem reset_units : State.reset.units[w] = WalkUnit.reset := by simp [State.reset]

theorem reset_slots : State.reset.slots[k] = TagSlot.reset := by simp [State.reset]

theorem reset_answers : State.reset.answers[k] = none := by simp [State.reset]

end Reset

theorem reset_noRound {P : CellId → Round → Prop} (c : CellId) (r : Round) (round : State.reset.cells[c].round = some r) :
    P c r := by
  rw [reset_round] at round
  cases round

theorem reset_notWalking {P : Prop} {w : UnitId} {walk : Walk} (walking : State.reset.units[w].mode = .walking walk) :
    P := by
  rw [reset_units] at walking
  cases walking

/-- After reset nothing names a stride entry. -/
theorem reset_namingCount (e : StrideId) : namingCount State.reset e = 0 := by
  have hrefs : ∀ w : UnitId, (unitRefs State.reset.units[w]).count e = 0 := fun w => by
    rw [reset_units]
    rfl
  have hunits : (unitOrder.map fun w => (unitRefs State.reset.units[w]).count e).sum = 0 :=
    List.sum_eq_zero fun n hn => by
      obtain ⟨w, -, rfl⟩ := List.mem_map.1 hn
      exact hrefs w
  rw [namingCount, hunits]
  rfl

/-- After reset no host has a membership. -/
theorem reset_membershipCount (h : HostId) : membershipCount State.reset h = 0 := by
  unfold membershipCount
  exact List.sum_eq_zero fun n hn => by
    obtain ⟨c, -, rfl⟩ := List.mem_map.1 hn
    rw [memberships, reset_round]

theorem reset_roundLaw : RoundLaw State.reset := by
  refine (roundLaw_iff _).2 fun c => ?_
  rw [reset_round]
  exact ⟨rfl, rfl⟩

theorem reset_publicationLaw : PublicationLaw State.reset := by
  refine ⟨List.nodup_nil, fun c => ⟨(fun hc => nomatch hc), ?_⟩, reset_noRound⟩
  rintro ⟨r, hr, -⟩
  exact reset_noRound (P := fun _ _ => _) c r hr

theorem reset_answerLaw : AnswerLaw State.reset := by
  have hplace : ∀ (w : UnitId) (k : PlaceId), placeOutstanding State.reset.units[w].window[k] = false := fun w k => by
    rw [reset_units]
    simp [WalkUnit.reset, placeOutstanding]
  refine ⟨fun w k => ?_, ?_⟩
  · simp only [answerDue, hplace, reset_slots, reset_answers, TagSlot.reset]
    simp
  · simp only [answerDue, publisherWaits, reset_slots, reset_answers, TagSlot.reset]
    simp [State.reset]

/-- Settles O52: after reset every block is idle or empty, and each law says nothing of such a block. -/
theorem resetMeetsEveryLaw : Obligations.ResetMeetsEveryLaw := by
  refine ⟨fun h => ?_, fun h => ?_, fun h => ?_, fun h => ?_, fun e => ?_, fun e => ?_, ⟨Nat.zero_le _, fun h => ?_⟩,
    List.Pairwise.nil, fun w => ?_, reset_answerLaw, fun k => ?_, ⟨by decide, by decide, by decide, fun _ => rfl⟩,
    ⟨(fun g hg => nomatch hg), (fun w hw => nomatch hw)⟩,
    ⟨reset_noRound, (fun e he => nomatch he), fun w => ?_, (fun m hm => nomatch hm)⟩, reset_noRound, reset_noRound,
    reset_publicationLaw, reset_roundLaw, ⟨fun h => ?_, reset_noRound⟩,
    ⟨reset_noRound, fun w walk walking => reset_notWalking walking, (fun m hm => nomatch hm)⟩, (fun e he => nomatch he),
    (fun ready => nomatch ready)⟩
  case refine_1 => rw [reset_queues]; decide
  case refine_2 => rw [reset_queues, reset_ports]; decide
  case refine_3 => rw [reset_ports]; decide
  case refine_4 => rw [reset_ports]; exact ⟨trivial, fun waits => absurd rfl waits⟩
  case refine_5 => rw [reset_strides, reset_namingCount]; rfl
  case refine_6 => rw [reset_strides]; decide
  case refine_7 => simp [State.reset]
  case refine_8 => rw [reset_units]; exact fun k => by simp [WalkUnit.reset]
  case refine_9 => rw [reset_slots]; rfl
  case refine_10 => rw [reset_units]; exact ⟨rfl, rfl⟩
  case refine_11 => rw [reset_ports, reset_queues, reset_membershipCount]; rfl

end Sys2Proof.Machine
end

section
/-! Proofs about the host ports: framing, decisions, port resets, PORT CONTROL and acknowledgements. -/

namespace Sys2Proof.Machine

open Sys2Proof.Safety

variable {s : State} {h : HostId} {i : Instr} {word : Word}

/-! ### Accesses -/

/-- An access on a bus that holds no write is completed. -/
theorem hostAccess_free (free : ∀ words stage, s.ports[h].framing ≠ .delivering words stage) (after : State) :
    hostAccess s h after = .next after.settle := by
  rw [hostAccess, if_neg (Bool.eq_false_iff.1 (busHeld_false free)), completed]

theorem portInert_iff : portInert s h = true ↔ s.ports[h].lineHeld = true ∨ s.deviceReset = true := by
  simp [portInert]

theorem portInert_live (line : s.ports[h].lineHeld = false) (runs : s.deviceReset = false) : ¬portInert s h = true := by
  rw [portInert, line, runs]
  decide

theorem exec_writesCommand (row : i = .commandWrite h word ∨ i = .unknownCommand h word) :
    exec i s = hostAccess s h (writeCommand s h word) := by
  rcases row with rfl | rfl <;> rfl

theorem exec_writesControl (row : writesControl i h word) : exec i s = hostAccess s h (writeControl s h word) := by
  rcases row with rfl | rfl | rfl | rfl | rfl <;> rfl

/-! ### Framing -/

theorem codeLength_eq_none {code : Nat} (unknown : code = 0 ∨ 9 ≤ code) : codeLength code = none := by
  rcases unknown with rfl | above
  · rfl
  · obtain ⟨n, rfl⟩ := Nat.exists_eq_add_of_le' above
    rfl

theorem codeLength_one {code : Nat} (known : 3 ≤ code ∧ code ≤ 6 ∨ code = 8) : codeLength code = some 1 := by
  have hcodes : code = 3 ∨ code = 4 ∨ code = 5 ∨ code = 6 ∨ code = 8 := by omega
  rcases hcodes with rfl | rfl | rfl | rfl | rfl <;> rfl

/-- A first word of an unknown code is refused at the port (R137). -/
theorem writeCommand_unknown {p : HostPort} (empty : p.framing = .empty)
    (unknown : codeLength (commandCode word) = none) : p.writeCommand word = p.record .unknownCommand word := by
  simp only [HostPort.writeCommand, empty, unknown]

/-- A first word begins a command of more than one word, or is the whole of one (R137, R138). -/
theorem writeCommand_first {p : HostPort} {length : Nat} (empty : p.framing = .empty)
    (known : codeLength (commandCode word) = some length) :
    p.writeCommand word =
      if length = 1 then p.complete [word] else { p with framing := .assembling [word] length } := by
  simp only [HostPort.writeCommand, empty, known]

/-- A word in ASSEMBLING is appended, and the last completes the command (R138). -/
theorem writeCommand_next {p : HostPort} {words : List Word} {expected : Nat}
    (assembling : p.framing = .assembling words expected) :
    p.writeCommand word =
      if words.length + 1 = expected then p.complete (words ++ [word])
      else { p with framing := .assembling (words ++ [word]) expected } := by
  simp only [HostPort.writeCommand, assembling]

theorem complete_refused {p : HostPort} {words : List Word} {index : Nat} (check : portCheck words = some index) :
    p.complete words =
      { p with
        framing := .empty, ticket := p.ticket + 1, lastCode := .badField
        lastValue := 0x80000000 + BitVec.ofNat 32 (index % 8) } := by
  simp only [HostPort.complete, check, HostPort.record, portFaultValue_eq]

theorem complete_passed {p : HostPort} {words : List Word} (check : portCheck words = none) :
    p.complete words = { p with framing := .delivering words (if p.awaited = 0 then .handed else .held) } := by
  simp only [HostPort.complete, check]

/-- Settles O18: an access to COMMAND writes `HostPort.writeCommand` to the port; a case for each code range, for a word
that is not the last and for one that is. -/
theorem commandWordsAreFramed : Obligations.CommandWordsAreFramed := by
  intro s h w i row line runs p code becomes completes
  have hwritten : (∀ words stage, p.framing ≠ .delivering words stage) → ∀ p', p.writeCommand w = p' → becomes p' := by
    rintro free p' rfl
    show exec i s = _
    rw [exec_writesCommand row, hostAccess_free free, writeCommand, if_neg (portInert_live line runs)]
    rfl
  have hcompletes : (∀ words stage, p.framing ≠ .delivering words stage) → ∀ words,
      p.writeCommand w = p.complete words → completes words := fun free words last =>
    ⟨fun index check => hwritten free _ (last.trans (complete_refused check)),
      fun check => hwritten free _ (last.trans (complete_passed check))⟩
  have hcode : commandCode w = code := commandCode_eq w
  refine ⟨fun empty => ?_, fun words expected assembling => ?_⟩
  · have free : ∀ words stage, p.framing ≠ .delivering words stage := by simp [empty]
    have hfirst : ∀ length, codeLength code = some length → p.writeCommand w =
        if length = 1 then p.complete [w] else { p with framing := .assembling [w] length } :=
      fun length known => writeCommand_first empty (by rw [hcode, known])
    refine ⟨fun unknown => ?_, fun known => ?_, fun known => ?_, fun known => ?_, fun known => ?_⟩
    · exact hwritten free _ (writeCommand_unknown empty (by rw [hcode, codeLength_eq_none unknown]))
    · exact hwritten free _ (hfirst 4 (by rw [known]; rfl))
    · exact hwritten free _ (hfirst 5 (by rw [known]; rfl))
    · exact hwritten free _ (hfirst 2 (by rw [known]; rfl))
    · exact hcompletes free _ (hfirst 1 (codeLength_one known))
  · have free : ∀ words stage, p.framing ≠ .delivering words stage := by simp [assembling]
    refine ⟨fun more => ?_, fun last => ?_⟩
    · exact hwritten free _ ((writeCommand_next assembling).trans (if_neg more))
    · exact hcompletes free _ ((writeCommand_next assembling).trans (if_pos last))

/-! ### Decisions and port resets -/

theorem resetPortTimes_eq (s : State) (h : HostId) (n : Nat) :
    s.resetPortTimes h n = (fun t => portWasReset t h)^[n] s := by
  induction n generalizing s with
  | zero => rfl
  | succ n ih => rw [State.resetPortTimes, ih, resetPort_eq, Function.iterate_succ_apply]

/-- Settles O19: the resets that waited are an iteration of the port reset. -/
theorem decisionIsRecordedAndReleasesAWaitingReset : Obligations.DecisionIsRecordedAndReleasesAWaitingReset := by
  intro s h words code value hdecided recorded
  show execCommandDecision h s = _
  simp only [execCommandDecision, hdecided, completed, resetPortTimes_eq]
  rfl

/-- Settles O20: an access with no effect is completed with the state it found. -/
theorem ignoredAccessesChangeNothing : Obligations.IgnoredAccessesChangeNothing := by
  intro s h
  refine ⟨fun free => ⟨fun location w => hostAccess_free free s, fun inert w => ?_⟩, fun line => ?_⟩
  · have hcommand : writeCommand s h w = s := if_pos (portInert_iff.2 inert)
    have hcontrol : writeControl s h w = s := if_pos (portInert_iff.2 inert)
    have hwrite : hostAccess s h (writeCommand s h w) = .next s.settle := by rw [hostAccess_free free, hcommand]
    have hcontrolled : hostAccess s h (writeControl s h w) = .next s.settle := by rw [hostAccess_free free, hcontrol]
    exact ⟨hwrite, hwrite, hcontrolled, hcontrolled, hcontrolled, hcontrolled, hcontrolled⟩
  · show execResetLineReleased h s = _
    rw [execResetLineReleased, if_pos line]
    rfl

/-- A decision is outstanding while a command is with its owner (R148). -/
theorem awaitsDecision_iff {p : HostPort} :
    awaitsDecision p = true ↔ ∃ words stage, p.framing = .delivering words stage ∧ stage ≠ .held := by
  unfold awaitsDecision
  split <;> simp_all

/-- A cause with no decision outstanding resets the port at once. -/
theorem takeResetCause_now (undecided : ¬awaitsDecision s.ports[h] = true) : s.takeResetCause h = portWasReset s h := by
  rw [State.takeResetCause, if_neg undecided, resetPort_eq]

/-- Settles O22: a cause resets the port at once, or is counted while a decision is outstanding. -/
theorem portResetClearsThePortAndItsQueue : Obligations.PortResetClearsThePortAndItsQueue := by
  intro s h held
  have hport : held.ports[h] = { s.ports[h] with lineHeld := true } := set_same _ _ _
  have hasserted : s.ports[h].lineHeld = false → exec (.resetLineAsserted h) s = .next (held.takeResetCause h).settle := by
    intro line
    show execResetLineAsserted h s = _
    rw [execResetLineAsserted, if_neg (Bool.eq_false_iff.1 line)]
    rfl
  refine ⟨fun w reset free line runs => ?_, fun line undecided => ?_, fun line words stage delivering out => ?_⟩
  · have hundecided : ¬awaitsDecision s.ports[h] = true := fun hd => by
      obtain ⟨words, stage, hdelivering, -⟩ := awaitsDecision_iff.1 hd
      exact free words stage hdelivering
    rw [exec_writesControl (.inr (.inr (.inr (.inr rfl)))), hostAccess_free free, writeControl,
      if_neg (portInert_live line runs), controlReset, bitSet_eq, if_pos reset, takeResetCause_now hundecided]
  · rw [hasserted line, takeResetCause_now fun hd => ?_]
    rw [hport] at hd
    obtain ⟨words, stage, hdelivering, hstage⟩ := awaitsDecision_iff.1 hd
    exact hstage (undecided words stage hdelivering)
  · have hdecision : awaitsDecision held.ports[h] = true := by
      rw [hport]
      exact awaitsDecision_iff.2 ⟨words, stage, delivering, out⟩
    rw [hasserted line, State.takeResetCause, if_pos hdecision, hport]
    simp only [State.putPort, held, Vector.set_set]

/-! ### PORT CONTROL -/

theorem discardWords_free {framing : Framing} (free : ∀ words stage, framing ≠ .delivering words stage) :
    discardWords framing = .empty := by
  cases framing with
  | empty => rfl
  | assembling => rfl
  | delivering words stage => exact absurd rfl (free words stage)

theorem controlAck_eq (w : Word) : controlAck w = w.extractLsb' 0 5 := by
  rw [controlAck, bitField_eq, BitVec.ofNat_toNat, BitVec.setWidth_eq]

/-- The view after a word, by its bits 12 and 14:13; encoding 3 keeps the view (R172). -/
theorem controlledView (w : Word) (view : StatusView) :
    (if controlSelectsView w then (controlView w).getD view else view) =
      if w.getLsbD 12 = true ∧ w.extractLsb' 13 2 = 0#2 then .command
      else if w.getLsbD 12 = true ∧ w.extractLsb' 13 2 = 1#2 then .value
      else if w.getLsbD 12 = true ∧ w.extractLsb' 13 2 = 2#2 then .queue
      else view := by
  rw [controlSelectsView, bitSet_eq, controlView, bitField_eq]
  generalize w.getLsbD 12 = selects
  generalize w.extractLsb' 13 2 = code
  cases view <;> revert selects code <;> decide

/-- Settles O23: a word without RESET makes the four actions on the port and the queue. -/
theorem portControlMakesEveryRequestedAction : Obligations.PortControlMakesEveryRequestedAction := by
  intro s h w i row noReset free line runs p p' q
  have hrow : writesControl i h w := by
    rcases row with rfl | rfl | rfl | rfl <;> simp [writesControl]
  have hport : s.ports[h].control w = p' := by
    simp only [HostPort.control, controlDiscard, controlSetsEnables, controlCompletion, controlError, bitSet_eq,
      controlledView, discardWords_free free, p', p]
  rw [exec_writesControl hrow, hostAccess_free free, writeControl, if_neg (portInert_live line runs), controlReset,
    bitSet_eq, if_neg (Bool.eq_false_iff.1 noReset), putQueue_eq, hport, controlAck_eq]
  simp only [State.putPort, set_same]
  rfl

/-! ### Acknowledgements -/

theorem handOver_other {awaited : Nat} {framing : Framing} (other : ∀ words, framing ≠ .delivering words .held) :
    handOver awaited framing = framing := by
  unfold handOver
  split
  next words => exact absurd rfl (other words)
  · rfl

/-- Settles O24: the port hands over a held command as the count falls to 0. -/
theorem lastAcknowledgementHandsOverTheHeldCommand : Obligations.LastAcknowledgementHandsOverTheHeldCommand := by
  intro s h returned awaited p
  refine ⟨handOver (p.awaited - 1) p.framing, ?_, fun words held => ?_, handOver_other⟩
  · show execAcknowledgement h s = _
    rw [execAcknowledgement, if_neg (by omega)]
    rfl
  · have hlast : p.awaited - 1 = 0 ↔ p.awaited = 1 := by
      have : 1 ≤ p.awaited := awaited
      omega
    rw [held]
    simp only [handOver, hlast]

end Sys2Proof.Machine
end

section
/-! Proofs about the memory port: the arbiter, the taking of a grant, responses and response timers, and the
Publisher. -/

namespace Sys2Proof.Machine

open Sys2Proof.Safety

variable {s : State} {w : UnitId} {k : PlaceId} {slot : SlotId}

/-! ### The first of a list in rising order -/

/-- The one found in a list that rises by a key has the least key of all that qualify. -/
theorem find?_least {α : Type} {l : List α} {p : α → Bool} {key : α → Nat} {a b : α}
    (rising : l.Pairwise fun x y => key x < key y) (found : l.find? p = some a) (mem : b ∈ l) (hb : p b = true) :
    key a ≤ key b := by
  obtain ⟨-, front, back, rfl, hfront⟩ := List.find?_eq_some_iff_append.1 found
  rcases List.mem_append.1 mem with hmem | hmem
  · have := hfront b hmem
    rw [hb] at this
    cases this
  · rcases List.mem_cons.1 hmem with rfl | hmem
    · exact Nat.le_refl _
    · exact (List.rel_of_pairwise_cons (List.pairwise_append.1 rising).2.1 hmem).le

/-- The lowest number that qualifies is found first in rising order. -/
theorem find?_lowest {p : Fin 4 → Bool} {n : Fin 4} (hn : p n = true) (least : ∀ m, m < n → p m = false) :
    ([0, 1, 2, 3] : List (Fin 4)).find? p = some n := by
  have mem : ∀ m : Fin 4, m ∈ ([0, 1, 2, 3] : List (Fin 4)) := by decide
  cases found : ([0, 1, 2, 3] : List (Fin 4)).find? p with
  | none => exact absurd hn (List.find?_eq_none.1 found n (mem n))
  | some m =>
    have hle : m ≤ n := find?_least (key := Fin.val) (by decide) found (mem n) hn
    rcases hle.lt_or_eq with hlt | rfl
    · cases (least m hlt).symm.trans (List.find?_some found)
    · rfl

theorem emptyPlace_lowest {window : Vector (Option Place) 4} (empty : window[k] = none)
    (least : ∀ j : PlaceId, j < k → window[j] ≠ none) : emptyPlace window = some k :=
  find?_lowest (p := fun k : PlaceId => window[k].isNone) (by rw [empty]; rfl) fun j hj => by
    simpa [Option.isNone_eq_false_iff] using Option.ne_none_iff_isSome.1 (least j hj)

/-! ### Responses -/

theorem matchedSlot_eq_some {tag : BitVec 10} (names : (tag.extractLsb' 0 5).toNat = slot.val)
    (outstanding : s.slots[slot].outstanding = true) (sequence : s.slots[slot].sequence = tag.extractLsb' 5 4)
    (epoch : tag.getLsbD 9 = s.epoch) : matchedSlot s tag = some slot := by
  simp only [matchedSlot, (tagSlot_eq_some tag slot).2 names, tagSequence_eq]
  exact if_pos ⟨outstanding, sequence, epoch⟩

theorem matchedSlot_eq_none {tag : BitVec 10}
    (other : ∀ k : SlotId, (tag.extractLsb' 0 5).toNat = k.val →
      ¬(s.slots[k].outstanding = true ∧ s.slots[k].sequence = tag.extractLsb' 5 4 ∧ tag.getLsbD 9 = s.epoch)) :
    matchedSlot s tag = none := by
  unfold matchedSlot
  split
  · rfl
  next k names =>
    rw [tagSequence_eq]
    exact if_neg (other k ((tagSlot_eq_some tag k).1 names))

/-- Settles O47: the tag matches the one slot that it names, or none. -/
theorem responseMatchesOrIsDiscarded : Obligations.ResponseMatchesOrIsDiscarded := by
  intro s tag answer
  have hexec : exec (.memoryResponse tag answer) s = execMemoryResponse tag answer s := rfl
  refine ⟨fun k names outstanding sequence epoch => ?_, fun other => ?_⟩
  · simp only [hexec, execMemoryResponse, matchedSlot_eq_some names outstanding sequence epoch]
    cases answer <;> rfl
  · simp only [hexec, execMemoryResponse, matchedSlot_eq_none other, completed]

/-! ### Response timers -/

theorem slotTick_stopped (stopped : s.slots[slot].outstanding = false) : s.slotTick slot = s :=
  if_pos stopped

theorem slotTick_counts (outstanding : s.slots[slot].outstanding = true) (left : 2 ≤ s.slots[slot].timer) :
    s.slotTick slot = s.putSlot slot { s.slots[slot] with timer := s.slots[slot].timer - 1 } := by
  rw [State.slotTick, if_neg (Bool.not_eq_false _ ▸ outstanding), if_neg (by omega)]

theorem slotTick_expires (outstanding : s.slots[slot].outstanding = true) (last : s.slots[slot].timer ≤ 1) :
    s.slotTick slot = s.answerSlot slot .timeout := by
  rw [State.slotTick, if_neg (Bool.not_eq_false _ ▸ outstanding), if_pos last]

/-- Settles O48: the three cases of a slot's tick. -/
theorem responseTimerCountsDownAndTimesOut : Obligations.ResponseTimerCountsDownAndTimesOut := by
  intro s k issued ticked
  have hissued : s.responseTicks[k] ≠ 0 := by omega
  have htick : exec (.responseTimerTick k) s = .next (ticked.slotTick k).settle := by
    show execResponseTimerTick k s = _
    rw [execResponseTimerTick, if_neg hissued]
    rfl
  refine ⟨fun stopped => ?_, fun outstanding left => ?_, fun outstanding last i row => ?_⟩
  · rw [htick, slotTick_stopped (s := ticked) stopped]
  · rw [htick, slotTick_counts (s := ticked) outstanding left]
    rfl
  · have htimeout : exec (.responseTimeout k) s = .next (ticked.slotTick k).settle := by
      show execResponseTimeout k s = _
      rw [execResponseTimeout, if_neg hissued, if_pos ⟨outstanding, last⟩]
      rfl
    have hexpires := slotTick_expires (s := ticked) outstanding last
    rcases row with rfl | rfl
    · rw [htick, hexpires]
      rfl
    · rw [htimeout, hexpires]
      rfl

/-! ### Read grants -/

/-- A unit that offers has its lowest-numbered empty place's read ready (R103). -/
theorem readReady_lowest {unit : WalkUnit} {walk : Walk} {g : Generator} (walking : unit.mode = .walking walk)
    (generator : unit.generator = some g) (going : g.exhausted = false) (empty : unit.window[k] = none)
    (least : ∀ j : PlaceId, j < k → unit.window[j] ≠ none) : readReady unit = some (walk, g, k) := by
  simp [readReady, walking, generator, going, emptyPlace_lowest empty least]

/-- The byte enables of a read are the element's bytes in its unit (R115). -/
theorem readEnables_bit (address : Addr) (size j : Nat) (below : j < 8) :
    (readEnables address size).getLsbD j = true ↔ address.toNat % 8 ≤ j ∧ j < address.toNat % 8 + size := by
  rw [readEnables, BitVec.getLsbD_ofNat, ← Nat.shiftLeft_eq, Nat.testBit_shiftLeft, Nat.testBit_two_pow_sub_one]
  simp only [below, decide_true, Bool.true_and, Bool.and_eq_true, decide_eq_true_eq]
  omega

/-- The request of the read that a unit issues (R115, R118). -/
def readRequest (s : State) (w : UnitId) (g : Generator) (k : PlaceId) (size : Nat) : MemRequest :=
  { address := unitAddress g.address, byteEnables := readEnables g.address size, write := false, data := none
    tag := makeTag (placeSlot w k) (s.slots[placeSlot w k].sequence + 1) s.epoch }

/-- Settles O44: a withdrawn offer is declined, and one that stands is the read of its unit. -/
theorem readGrantIssuesTheNextElement : Obligations.ReadGrantIssuesTheNextElement := by
  intro s w
  have hexec : exec (.readGrantTaken w) s = execReadGrantTaken w s := rfl
  refine ⟨fun granted => ?_, fun walk g k granted walking generator going empty least => ?_⟩
  · simp only [hexec, execReadGrantTaken, granted, if_pos, completed]
  intro d slot
  have hready := readReady_lowest walking generator going empty least
  obtain ⟨hslot, hsequence, hepoch⟩ := makeTag_parts (placeSlot w k) (slot.sequence + 1) s.epoch
  refine ⟨readRequest s w g k (elementSize d.format), ?_, rfl, rfl, rfl,
    fun j hj => readEnables_bit g.address (elementSize d.format) j hj, hslot, hsequence, hepoch⟩
  simp only [hexec, execReadGrantTaken, granted, if_pos, hready, completed]
  rfl

/-! ### The Publisher -/

theorem reportPublication_frame (s : State) (c : CellId) (status : PublicationStatus) :
    s.reportPublication c status =
      { s with
        publisher := (s.reportPublication c status).publisher
        publicationQueue := (s.reportPublication c status).publicationQueue
        publicationReports := s.publicationReports ++ [{ cell := c, status := status }] } := by
  unfold State.reportPublication State.takeHead
  split <;> rfl

theorem reportPublication_empty (queue : s.publicationQueue = []) (c : CellId) (status : PublicationStatus) :
    (s.reportPublication c status).publisher = none ∧ (s.reportPublication c status).publicationQueue = [] := by
  simp [State.reportPublication, State.takeHead, queue]

/-- After its report the Publisher takes the head of its queue (R127, R131). -/
theorem reportPublication_takes {d : CellId} {rest : List CellId} (queue : s.publicationQueue = d :: rest) (c : CellId)
    (status : PublicationStatus) :
    (s.reportPublication c status).publisher = composeRecord d s.cells[d]
      ∧ (s.reportPublication c status).publicationQueue = rest := by
  simp [State.reportPublication, State.takeHead, queue]

/-- Settles O46: the write of each step, and the three ends of an answer. -/
theorem publisherWritesInTwoSteps : Obligations.PublisherWritesInTwoSteps := by
  intro s p current slot answered reported
  refine ⟨fun granted offered => ?_, fun a answer waits => ?_⟩
  · show execWriteGrantTaken s = _
    simp only [execWriteGrantTaken, granted, if_pos, current, offered, completed, State.issueWrite]
    cases hstep : p.step <;> simp [writeAddress, writeData, hstep, State.issue, State.putSlot, slot]
  have hexec : exec .publisherAnswer s = .next (answered.publisherTakes p a).settle := by
    show execPublisherAnswer s = _
    simp only [execPublisherAnswer, answer, current, waits, if_pos, completed]
    rfl
  have hreported : ∀ status, answered.publisherTakes p a = answered.reportPublication p.cell status →
      reported status (answered.reportPublication p.cell status) := by
    intro status takes
    refine ⟨takes ▸ hexec, ?_, fun queue => ?_, fun c rest queue => ?_⟩
    · exact reportPublication_frame answered p.cell status
    · exact reportPublication_empty (s := answered) queue p.cell status
    · exact reportPublication_takes (s := answered) queue p.cell status
  refine ⟨fun data ok first => ?_, fun data ok second => ⟨_, hreported .written ?_⟩,
    fun failed => ⟨_, hreported .writeFailed ?_⟩⟩
  · rw [hexec, ok]
    simp only [State.publisherTakes, first]
  · rw [ok]
    simp only [State.publisherTakes, second]
  · rcases failed with rfl | rfl <;> cases hstep : p.step <;> simp only [State.publisherTakes, hstep]

/-! ### The arbiter -/

/-- How far a unit stands after the rotation pointer, from 0 for the unit next to it (R124 step 4). -/
def rotationRank (pointer u : UnitId) : Nat :=
  (u.val + 3 - pointer.val) % 4

theorem rotationOrder_rises (pointer : UnitId) :
    (rotationOrder pointer).Pairwise fun u v => rotationRank pointer u < rotationRank pointer v := by
  revert pointer
  decide

theorem offersAt_iff {top : Nat} : offersAt s top w = true ↔ offersRead s.units[w] top := by
  rw [offersAt, decide_eq_true_eq, offerPriority_iff]

theorem holdClaim_eq_some {top : Nat} :
    holdClaim s top = some w ↔ s.holdOwner = some w ∧ offersRead s.units[w] top := by
  rw [holdClaim, Option.filter_eq_some_iff, offersAt_iff]

/-- The unit that the arbiter chooses when the Publisher offers nothing (R124). -/
theorem arbiterChoice_unit (noWrite : ¬offersWrite s) {v : UnitId} {p : Nat} (offers : offersRead s.units[v] p) :
    ∃ (w : UnitId) (top : Nat), arbiterChoice s = some (.walkUnit w) ∧ offersRead s.units[w] top
      ∧ (∀ (u : UnitId) (q : Nat), offersRead s.units[u] q → q ≤ top)
      ∧ (∀ u : UnitId, s.holdOwner = some u → offersRead s.units[u] top → w = u)
      ∧ ((∀ u : UnitId, s.holdOwner = some u → ¬offersRead s.units[u] top) →
        ∀ u : UnitId, offersRead s.units[u] top → rotationRank s.rotation w ≤ rotationRank s.rotation u) := by
  have hspec := winningPriority_spec s
  unfold arbiterChoice
  rw [if_neg (fun h => noWrite ((publisherOffers_iff s).1 h))]
  cases hwinning : winningPriority s with
  | none =>
    rw [hwinning] at hspec
    exact absurd offers (hspec v p)
  | some top =>
    rw [hwinning] at hspec
    obtain ⟨⟨x, hx⟩, htop⟩ := hspec
    cases hclaim : holdClaim s top with
    | some w =>
      obtain ⟨howner, hoffers⟩ := holdClaim_eq_some.1 hclaim
      refine ⟨w, top, by simp only [hclaim], hoffers, htop, fun u hu _ => ?_, fun none => absurd hoffers (none w howner)⟩
      exact Option.some.inj (howner.symm.trans hu)
    | none =>
      cases hfound : (rotationOrder s.rotation).find? (offersAt s top) with
      | none => exact absurd (offersAt_iff.2 hx) (List.find?_eq_none.1 hfound x (mem_rotationOrder _ x))
      | some w =>
        refine ⟨w, top, by simp [hclaim, hfound], offersAt_iff.1 (List.find?_some hfound), htop, fun u hu hoffers => ?_,
          fun _ u hoffers => ?_⟩
        · rw [holdClaim_eq_some.2 ⟨hu, hoffers⟩] at hclaim
          cases hclaim
        · exact find?_least (rotationOrder_rises _) hfound (mem_rotationOrder _ u) (offersAt_iff.2 hoffers)

/-- With no grant to make, completing an event leaves the grant (R124). -/
theorem settle_grant (none : s.memoryReady = false ∨ s.grant ≠ none) : s.settle.grant = s.grant := by
  have hkept := settle_keeps (P := fun t => t.memoryReady = s.memoryReady ∧ t.grant = s.grant) (s := s)
    (fun t ⟨hready, hgrant⟩ => by
      rw [makeGrant_none (by rw [hready, hgrant]; exact none)]
      exact ⟨hready, hgrant⟩)
    (fun t h => by rw [makeDispatch_frame]; exact h) ⟨rfl, rfl⟩
  exact hkept.2

/-- Settles O45: the due grant, made first, is the arbiter's choice. -/
theorem arbiterGrantsByRank : Obligations.ArbiterGrantsByRank := by
  refine ⟨fun s => rfl, fun s none => settle_grant none, fun s ready noGrant => ?_⟩
  intro granted
  have hgranted : ∀ requester, arbiterChoice s = some requester → s.settle = (granted requester).settle := by
    intro requester choice
    rw [← settle_makeGrant, makeGrant_due ready noGrant, choice]
    rfl
  refine ⟨fun writes => hgranted _ ?_, fun noWrite v p offers => ?_⟩
  · rw [arbiterChoice, if_pos ((publisherOffers_iff s).2 writes)]
  · obtain ⟨w, top, choice, hspec⟩ := arbiterChoice_unit noWrite offers
    exact ⟨w, top, hgranted _ choice, hspec⟩

end Sys2Proof.Machine
end

section
/-! Proofs about the layouts of chapter 10: how a packed word reads back, then the words of the commands, of the
completion entries, of PORT STATUS and of the publication record. -/

namespace Sys2Proof.Machine

open Sys2Proof.Safety

/-! ### Reading packed fields back

A word is packed from fields given from the highest down. Such fields do not overlap, so that the sum of the placed
fields holds each in its own bits. -/

/-- The fields are given from the highest down, each with its high bit first. -/
def fieldsFall (fields : List (Nat × Nat × Nat)) : Prop :=
  fields.Pairwise (fun f g => g.1 < f.2.1) ∧ ∀ f ∈ fields, f.2.1 ≤ f.1

theorem fieldsFall_cons {f : Nat × Nat × Nat} {rest : List (Nat × Nat × Nat)} :
    fieldsFall (f :: rest) ↔ (∀ g ∈ rest, g.1 < f.2.1) ∧ f.2.1 ≤ f.1 ∧ fieldsFall rest := by
  simp only [fieldsFall, List.pairwise_cons, List.forall_mem_cons]
  tauto

/-- The number that packed fields make. -/
def placedSum (fields : List (Nat × Nat × Nat)) : Nat :=
  (fields.map placedField).sum

theorem placedSum_cons (f : Nat × Nat × Nat) (rest : List (Nat × Nat × Nat)) :
    placedSum (f :: rest) = f.2.2 % 2 ^ (f.1 - f.2.1 + 1) * 2 ^ f.2.1 + placedSum rest := by
  rw [placedSum, List.map_cons, List.sum_cons]
  rfl

/-- Fields below a bit make a number below its power of two. -/
theorem placedSum_lt {fields : List (Nat × Nat × Nat)} (falls : fieldsFall fields) {n : Nat}
    (below : ∀ f ∈ fields, f.1 < n) : placedSum fields < 2 ^ n := by
  induction fields generalizing n with
  | nil => exact Nat.two_pow_pos n
  | cons f rest ih =>
    obtain ⟨hbelow, hfield, hrest⟩ := fieldsFall_cons.1 falls
    have hlow := ih hrest hbelow
    have hvalue : f.2.2 % 2 ^ (f.1 - f.2.1 + 1) + 1 ≤ 2 ^ (f.1 - f.2.1 + 1) := Nat.mod_lt _ (Nat.two_pow_pos _)
    have htop : 2 ^ (f.1 - f.2.1 + 1) * 2 ^ f.2.1 ≤ 2 ^ n := by
      rw [← pow_add]
      exact Nat.pow_le_pow_right (by decide) (by have := below f List.mem_cons_self; omega)
    have hplaced := Nat.mul_le_mul_right (2 ^ f.2.1) hvalue
    rw [placedSum_cons]
    rw [Nat.add_mul, Nat.one_mul] at hplaced
    omega

/-- What stands at bit `lo + width` or above does not show in the `width` bits from `lo`. -/
theorem read_below {high : Nat} (x rest : Nat) {lo width : Nat} (above : lo + width ≤ high) :
    (x * 2 ^ high + rest) / 2 ^ lo % 2 ^ width = rest / 2 ^ lo % 2 ^ width := by
  obtain ⟨k, rfl⟩ := Nat.exists_eq_add_of_le above
  rw [show x * 2 ^ (lo + width + k) = 2 ^ lo * (2 ^ width * (2 ^ k * x)) by ring,
    Nat.mul_add_div (Nat.two_pow_pos lo), Nat.mul_add_mod]

/-- A field reads back as the low bits of its number. -/
theorem placedSum_field {fields : List (Nat × Nat × Nat)} (falls : fieldsFall fields) {hi lo v : Nat}
    (mem : (hi, lo, v) ∈ fields) : placedSum fields / 2 ^ lo % 2 ^ (hi - lo + 1) = v % 2 ^ (hi - lo + 1) := by
  induction fields with
  | nil => cases mem
  | cons f rest ih =>
    obtain ⟨hbelow, hfield, hrest⟩ := fieldsFall_cons.1 falls
    rw [placedSum_cons]
    rcases List.mem_cons.1 mem with rfl | hmem
    · rw [Nat.mul_comm, Nat.mul_add_div (Nat.two_pow_pos _), Nat.div_eq_of_lt (placedSum_lt hrest hbelow), Nat.add_zero,
        Nat.mod_mod]
    · have hlo : lo ≤ hi := hrest.2 _ hmem
      have hhi : hi < f.2.1 := hbelow _ hmem
      rw [read_below _ _ (by omega), ih hrest hmem]

/-- The bits that no field covers are 0. -/
theorem placedSum_gap {fields : List (Nat × Nat × Nat)} (falls : fieldsFall fields) {lo width : Nat}
    (gap : ∀ f ∈ fields, lo + width ≤ f.2.1 ∨ f.1 < lo) : placedSum fields / 2 ^ lo % 2 ^ width = 0 := by
  induction fields with
  | nil => simp [placedSum]
  | cons f rest ih =>
    obtain ⟨hbelow, hfield, hrest⟩ := fieldsFall_cons.1 falls
    obtain ⟨hgap, hgaps⟩ := List.forall_mem_cons.1 gap
    rcases hgap with habove | hunder
    · rw [placedSum_cons, read_below _ _ habove, ih hrest hgaps]
    · rw [Nat.div_eq_of_lt (placedSum_lt falls fun g hg => ?_), Nat.zero_mod]
      rcases List.mem_cons.1 hg with rfl | hg
      · exact hunder
      · exact ((hbelow g hg).trans_le hfield).trans hunder

/-- A word or a unit packed from fields, as a bit vector of any width. -/
theorem ofNat_extract {n lo width : Nat} (x : Nat) (within : lo + width ≤ n) :
    (BitVec.ofNat n x).extractLsb' lo width = BitVec.ofNat width (x / 2 ^ lo % 2 ^ width) := by
  refine BitVec.eq_of_toNat_eq ?_
  rw [BitVec.extractLsb'_toNat, BitVec.toNat_ofNat, BitVec.toNat_ofNat, Nat.shiftRight_eq_div_pow, Nat.mod_mod]
  obtain ⟨k, rfl⟩ := Nat.exists_eq_add_of_le within
  conv_rhs => rw [← Nat.div_add_mod' x (2 ^ (lo + width + k))]
  rw [read_below _ _ (by omega)]

theorem ofNat_mod_self (width v : Nat) : BitVec.ofNat width (v % 2 ^ width) = BitVec.ofNat width v :=
  BitVec.eq_of_toNat_eq (by simp)

theorem packFields_sum (fields : List (Nat × Nat × Nat)) : packFields fields = BitVec.ofNat 32 (placedSum fields) :=
  packFields_eq_sum fields

/-- The `width` bits of a packed word from `lo` are the field that stands there. -/
theorem packFields_field {fields : List (Nat × Nat × Nat)} (falls : fieldsFall fields) {hi lo v : Nat} (width : Nat)
    (mem : (hi, lo, v) ∈ fields) (size : width = hi - lo + 1) (within : hi < 32) :
    (packFields fields).extractLsb' lo width = BitVec.ofNat width v := by
  subst size
  have hlo : lo ≤ hi := falls.2 _ mem
  rw [packFields_sum, ofNat_extract _ (by omega), placedSum_field falls mem, ofNat_mod_self]

/-- The `width` bits of a packed word from `lo` are 0 where no field stands. -/
theorem packFields_gap {fields : List (Nat × Nat × Nat)} (falls : fieldsFall fields) {lo width : Nat}
    (within : lo + width ≤ 32) (gap : ∀ f ∈ fields, lo + width ≤ f.2.1 ∨ f.1 < lo) :
    (packFields fields).extractLsb' lo width = 0#width := by
  rw [packFields_sum, ofNat_extract _ within, placedSum_gap falls gap]

/-- A bit inside a field. -/
theorem getLsbD_of_extract {n : Nat} {x : BitVec n} {lo width : Nat} {v : BitVec width} (field : x.extractLsb' lo width = v)
    (j : Nat) (below : j < width) : x.getLsbD (lo + j) = v.getLsbD j := by
  rw [← field, BitVec.getLsbD_extractLsb']
  simp [below]

theorem ofNat_bit (b : Bool) : (BitVec.ofNat 1 (bit b)).getLsbD 0 = b := by
  cases b <;> rfl

/-- A field of one bit. -/
theorem packFields_bit {fields : List (Nat × Nat × Nat)} (falls : fieldsFall fields) {j : Nat} {b : Bool}
    (mem : (j, j, bit b) ∈ fields) (within : j < 32) : (packFields fields).getLsbD j = b :=
  (getLsbD_of_extract (packFields_field falls 1 mem (by omega) within) 0 Nat.zero_lt_one).trans (ofNat_bit b)

/-- A word that is packed from fields given from the highest down. -/
def packedFrom (word : Word) (fields : List (Nat × Nat × Nat)) : Prop :=
  word = packFields fields ∧ fieldsFall fields

theorem packedFrom.field {word : Word} {fields : List (Nat × Nat × Nat)} (packed : packedFrom word fields)
    (hi lo v width : Nat) (mem : (hi, lo, v) ∈ fields) (size : width = hi - lo + 1 ∧ hi < 32) :
    word.extractLsb' lo width = BitVec.ofNat width v :=
  packed.1 ▸ packFields_field packed.2 width mem size.1 size.2

theorem packedFrom.gap {word : Word} {fields : List (Nat × Nat × Nat)} (packed : packedFrom word fields)
    {lo width : Nat} (within : lo + width ≤ 32) (gap : ∀ f ∈ fields, lo + width ≤ f.2.1 ∨ f.1 < lo) :
    word.extractLsb' lo width = 0#width :=
  packed.1 ▸ packFields_gap packed.2 within gap

theorem packedFrom.bit {word : Word} {fields : List (Nat × Nat × Nat)} (packed : packedFrom word fields)
    {j : Nat} {b : Bool} (mem : (j, j, Machine.bit b) ∈ fields) (within : j < 32) : word.getLsbD j = b :=
  packed.1 ▸ packFields_bit packed.2 mem within

/-- A bit that no field covers. -/
theorem packedFrom.clear {word : Word} {fields : List (Nat × Nat × Nat)} (packed : packedFrom word fields)
    {j : Nat} (within : j < 32) (gap : ∀ f ∈ fields, j + 1 ≤ f.2.1 ∨ f.1 < j) : word.getLsbD j = false :=
  getLsbD_of_extract (packed.gap (lo := j) (width := 1) within gap) 0 Nat.zero_lt_one

theorem ofNat_toNat_self {n : Nat} (x : BitVec n) : BitVec.ofNat n x.toNat = x := by
  rw [BitVec.ofNat_toNat, BitVec.setWidth_eq]

/-- A number below the power of two of its field reads back. -/
theorem toNat_ofNat_lt {n v : Nat} (below : v < 2 ^ n) : (BitVec.ofNat n v).toNat = v := by
  rw [BitVec.toNat_ofNat, Nat.mod_eq_of_lt below]

/-! ### The words of the commands (section 10.2) -/

theorem ofNat_bitField (w : Word) (hi lo n : Nat) (size : n = hi - lo + 1) :
    BitVec.ofNat n (bitField w hi lo) = w.extractLsb' lo n := by
  subst size
  rw [bitField_eq, ofNat_toNat_self]

/-- A field that names one of `n` items, `n` being the power of two of its width. -/
theorem finOfNat_bitField (w : Word) (hi lo n width : Nat) [NeZero n] (size : width = hi - lo + 1)
    (names : n = 2 ^ width) : (Fin.ofNat n (bitField w hi lo)).val = (w.extractLsb' lo width).toNat := by
  subst size
  rw [Fin.val_ofNat, ← bitField_eq, Nat.mod_eq_of_lt (names ▸ bitField_lt w hi lo)]

theorem decodeOperation_bits {b : BitVec 2} {x : Operation} :
    decodeOperation b.toNat = some x → b = match x with | .sum => 0#2 | .max => 1#2 | .min => 2#2 := by
  cases x <;> revert b <;> decide

theorem decodeOverflow_bits {b : BitVec 2} {x : OverflowPolicy} :
    decodeOverflow b.toNat = some x → b = match x with | .saturate => 0#2 | .wrap => 1#2 | .trap => 2#2 := by
  cases x <;> revert b <;> decide

theorem decodeOutput_bits {b : BitVec 2} {x : OutputPolicy} :
    decodeOutput b.toNat = some x → b = match x with | .saturate => 0#2 | .trap => 2#2 := by
  cases x <;> revert b <;> decide

theorem decodeRounding_bits {b : BitVec 2} {x : Rounding} :
    decodeRounding b.toNat = some x → b = match x with | .chop => 0#2 | .nearest => 1#2 := by
  cases x <;> revert b <;> decide

theorem decodeVoid_bits {b : BitVec 2} {x : VoidPolicy} :
    decodeVoid b.toNat = some x → b = match x with | .skip => 0#2 | .trap => 1#2 := by
  cases x <;> revert b <;> decide

theorem decodeWidth_bits {b : BitVec 2} {x : OutputWidth} :
    decodeWidth b.toNat = some x → b = match x with | .w32 => 0#2 | .w48 => 1#2 := by
  cases x <;> revert b <;> decide

theorem decodeFormat_bits (b : BitVec 2) :
    b = match decodeFormat b.toNat with | some .s8 => 0#2 | some .s16 => 1#2 | some .s32 => 2#2 | none => 3#2 := by
  revert b
  decide

/-- Settings that decode are those that each encoding names (R170). -/
theorem decodeSettings_bits {w : Word} {settings : Settings} (decodes : decodeSettings w = some settings) :
    (w.extractLsb' 30 2 = match settings.combine.operation with | .sum => 0#2 | .max => 1#2 | .min => 2#2)
      ∧ (w.extractLsb' 28 2 = match settings.combine.overflow with | .saturate => 0#2 | .wrap => 1#2 | .trap => 2#2)
      ∧ (w.extractLsb' 26 2 = match settings.output with | .saturate => 0#2 | .trap => 2#2)
      ∧ (w.extractLsb' 24 2 = match settings.combine.rounding with | .chop => 0#2 | .nearest => 1#2)
      ∧ (w.extractLsb' 22 2 = match settings.combine.voidPolicy with | .skip => 0#2 | .trap => 1#2)
      ∧ settings.combine.precisionReporting = w.getLsbD 21
      ∧ (w.extractLsb' 19 2 = match settings.width with | .w32 => 0#2 | .w48 => 1#2)
      ∧ settings.postShift = (w.extractLsb' 14 5).toNat := by
  simp only [decodeSettings, bitField_eq] at decodes
  split at decodes
  next hoperation hoverflow houtput hrounding hvoid hwidth =>
    split at decodes
    · cases decodes
      exact ⟨decodeOperation_bits hoperation, decodeOverflow_bits hoverflow, decodeOutput_bits houtput,
        decodeRounding_bits hrounding, decodeVoid_bits hvoid, bitSet_eq w 21, decodeWidth_bits hwidth, rfl⟩
    · cases decodes
  · cases decodes

/-- Settles O5: each field is the bits it reads, and each setting the encoding it decodes from. -/
theorem openWordsDecodeByTheirBits : Obligations.OpenWordsDecodeByTheirBits := by
  intro w₀ w₁ w₂ w₃ f
  refine ⟨finOfNat_bitField w₀ 21 16 64 6 rfl rfl, ofNat_bitField w₀ 3 0 4 rfl, bitSet_eq w₁ 13, bitField_eq w₂ 15 0, ?_,
    fun settings decodes => decodeSettings_bits decodes⟩
  show (if bitSet w₁ 12 then some w₃ else none) = _
  rw [bitSet_eq]

/-- Settles O6: each field is the bits it reads. -/
theorem contributeWordsDecodeByTheirBits : Obligations.ContributeWordsDecodeByTheirBits := by
  intro w₀ w₁ w₂ w₃ w₄ f
  refine ⟨finOfNat_bitField w₀ 21 16 64 6 rfl rfl, ofNat_bitField w₀ 15 0 16 rfl, rfl, ?_, bitField_eq w₂ 29 28,
    bitField_eq w₂ 25 13, bitField_eq w₂ 12 2, bitField_eq w₃ 31 23, signedField_eq w₃ 22 15,
    finOfNat_bitField w₃ 14 11 16 4 rfl rfl, finOfNat_bitField w₃ 10 7 16 4 rfl rfl, signedField_eq w₄ 31 26,
    bitField_eq w₄ 25 23, bitSet_eq w₄ 22⟩
  show _ = match decodeFormat (bitField w₂ 31 30) with | some .s8 => 0#2 | some .s16 => 1#2 | some .s32 => 2#2 | none => 3#2
  rw [bitField_eq]
  exact decodeFormat_bits _

/-! ### The port's checks (R140, R168) -/

/-- The word with ones in `width` bits from `lo`. -/
def onesFrom (lo width : Nat) : Word :=
  BitVec.ofNat 32 ((2 ^ width - 1) * 2 ^ lo)

theorem onesFrom_bit (lo width j : Nat) (below : j < 32) :
    (onesFrom lo width).getLsbD j = decide (lo ≤ j ∧ j < lo + width) := by
  rw [onesFrom, BitVec.getLsbD_ofNat, ← Nat.shiftLeft_eq, Nat.testBit_shiftLeft, Nat.testBit_two_pow_sub_one]
  rw [Bool.eq_iff_iff]
  simp only [below, decide_true, Bool.true_and, Bool.and_eq_true, decide_eq_true_eq]
  omega

/-- A word has no bit of a mask set. -/
theorem and_eq_zero_iff (w mask : Word) :
    w &&& mask = 0 ↔ ∀ j, j < 32 → w.getLsbD j = true → mask.getLsbD j = false := by
  constructor
  · intro clear j _ set
    have hbit := congrArg (BitVec.getLsbD · j) clear
    simpa [BitVec.getLsbD_and, set] using hbit
  · intro clear
    refine BitVec.eq_of_getLsbD_eq fun j hj => ?_
    cases hset : w.getLsbD j with
    | false => simp [hset]
    | true => simp [hset, clear j hj hset]

/-- No bit of a field is set when the field reads 0. -/
theorem and_onesFrom (w : Word) {lo width : Nat} (within : lo + width ≤ 32) :
    w &&& onesFrom lo width = 0 ↔ w.extractLsb' lo width = 0#width := by
  rw [and_eq_zero_iff]
  constructor
  · intro clear
    refine BitVec.eq_of_getLsbD_eq fun j hj => ?_
    by_contra hset
    have hbit : w.getLsbD (lo + j) = true := by simpa [BitVec.getLsbD_extractLsb', hj] using hset
    have hones := clear (lo + j) (by omega) hbit
    rw [onesFrom_bit _ _ _ (by omega), decide_eq_false_iff_not] at hones
    omega
  · intro field j hj hset
    rw [onesFrom_bit _ _ _ hj, decide_eq_false_iff_not]
    rintro ⟨hlo, hhi⟩
    have hbit := getLsbD_of_extract field (j - lo) (by omega)
    rw [show lo + (j - lo) = j by omega, hset] at hbit
    simp at hbit

theorem and_or_eq_zero (w a b : Word) : w &&& (a ||| b) = 0 ↔ w &&& a = 0 ∧ w &&& b = 0 := by
  simp only [and_eq_zero_iff, BitVec.getLsbD_or, Bool.or_eq_false_iff]
  grind

/-- A word whose mask is empty has no reserved bit set. -/
theorem reserved_none {mask : Word} (w : Word) (empty : mask = 0) : w &&& mask = 0 ↔ True := by
  simp [empty]

theorem reserved_field {mask : Word} (w : Word) {lo width : Nat} (field : mask = onesFrom lo width)
    (within : lo + width ≤ 32) : w &&& mask = 0 ↔ w.extractLsb' lo width = 0#width := by
  rw [field, and_onesFrom w within]

theorem reserved_fields {mask : Word} (w : Word) {lo width lo' width' : Nat}
    (fields : mask = onesFrom lo width ||| onesFrom lo' width') (within : lo + width ≤ 32) (within' : lo' + width' ≤ 32) :
    w &&& mask = 0 ↔ w.extractLsb' lo width = 0#width ∧ w.extractLsb' lo' width' = 0#width' := by
  rw [fields, and_or_eq_zero, and_onesFrom w within, and_onesFrom w within']

theorem reservedFault_nil (code index : Nat) : reservedFault code [] index = none := rfl

theorem reservedFault_cons_none {code index : Nat} {w : Word} {rest : List Word} :
    reservedFault code (w :: rest) index = none ↔
      w &&& reservedMask code index = 0 ∧ reservedFault code rest (index + 1) = none := by
  rw [reservedFault]
  split <;> simp_all

/-- The first word at fault holds a reserved bit that is 1, and no word before it does (R168). -/
theorem reservedFault_some {code index i : Nat} {words : List Word} (fault : reservedFault code words index = some i) :
    ∃ j, i = index + j ∧ j < words.length ∧ words.getD j 0 &&& reservedMask code (index + j) ≠ 0
      ∧ ∀ k, k < j → words.getD k 0 &&& reservedMask code (index + k) = 0 := by
  induction words generalizing index with
  | nil => cases fault
  | cons w rest ih =>
    rw [reservedFault] at fault
    split at fault
    next clear =>
      obtain ⟨j, rfl, hj, hset, hclear⟩ := ih fault
      refine ⟨j + 1, by omega, by simpa using hj, ?_, fun k hk => ?_⟩
      · rwa [List.getD_cons_succ, show index + (j + 1) = index + 1 + j by omega]
      · cases k with
        | zero => exact clear
        | succ k =>
          rw [List.getD_cons_succ, show index + (k + 1) = index + 1 + k by omega]
          exact hclear k (by omega)
    next set =>
      cases fault
      exact ⟨0, rfl, by simp, set, fun k hk => by omega⟩

/-- The port's checks pass when the declared length is the code's and no reserved bit is 1 (R140). -/
theorem portCheck_none {words : List Word} {code : BitVec 4} {length : BitVec 3}
    (names : (words.getD 0 0).extractLsb' 28 4 = code) (known : codeLength code.toNat = some length.toNat) :
    portCheck words = none ↔
      (words.getD 0 0).extractLsb' 25 3 = length ∧ reservedFault code.toNat words 0 = none := by
  subst names
  have hlength : codeLength (commandCode (words.getD 0 0)) = some (bitField (words.getD 0 0) 27 25) ↔
      (words.getD 0 0).extractLsb' 25 3 = length := by
    rw [commandCode_eq, known, Option.some_inj, bitField_eq, eq_comm]
    exact BitVec.toNat_inj
  rw [portCheck, commandCode_eq, ← hlength, commandCode_eq]
  split <;> simp_all

/-- The port's checks of a command of one word. -/
theorem portCheck_word {w : Word} {code : BitVec 4} (names : w.extractLsb' 28 4 = code)
    (known : codeLength code.toNat = some (1#3).toNat) {reserved : Prop}
    (clear : w &&& reservedMask code.toNat 0 = 0 ↔ reserved) :
    portCheck [w] = none ↔ w.extractLsb' 25 3 = 1#3 ∧ reserved := by
  rw [portCheck_none (words := [w]) names known, reservedFault_cons_none, reservedFault_nil, clear]
  simp

/-- Settles O7: each code's length and masks, and the first word at fault. -/
theorem portCheckPassesByLengthAndReservedBits : Obligations.PortCheckPassesByLengthAndReservedBits := by
  refine ⟨fun w₀ w₁ w₂ w₃ names => ?_, fun w₀ w₁ w₂ w₃ w₄ names => ?_, fun w names => ?_, fun w names => ?_,
    fun w names => ?_, fun w₀ w₁ names => ?_, fun w names => ?_, fun words wrong => if_neg wrong,
    fun words i right fault => ?_⟩
  · rw [portCheck_none (words := [w₀, w₁, w₂, w₃]) (code := 1#4) (length := 4#3) names rfl]
    simp only [reservedFault_cons_none, reservedFault_nil, List.getD_cons_zero, and_true,
      reserved_fields (mask := reservedMask (1#4).toNat 0) (lo := 22) (width := 3) (lo' := 4) (width' := 12) w₀
        (by decide +kernel) (by decide) (by decide),
      reserved_field (mask := reservedMask (1#4).toNat (0 + 1)) (lo := 0) (width := 12) w₁ (by decide +kernel) (by decide),
      reserved_field (mask := reservedMask (1#4).toNat (0 + 1 + 1)) (lo := 16) (width := 16) w₂ (by decide +kernel)
        (by decide),
      reserved_none (mask := reservedMask (1#4).toNat (0 + 1 + 1 + 1)) w₃ (by decide), and_assoc]
  · rw [portCheck_none (words := [w₀, w₁, w₂, w₃, w₄]) (code := 2#4) (length := 5#3) names rfl]
    simp only [reservedFault_cons_none, reservedFault_nil, List.getD_cons_zero, and_true,
      reserved_field (mask := reservedMask (2#4).toNat 0) (lo := 22) (width := 3) w₀ (by decide +kernel) (by decide),
      reserved_none (mask := reservedMask (2#4).toNat (0 + 1)) w₁ (by decide), true_and,
      reserved_fields (mask := reservedMask (2#4).toNat (0 + 1 + 1)) (lo := 26) (width := 2) (lo' := 0) (width' := 2) w₂
        (by decide +kernel) (by decide) (by decide),
      reserved_field (mask := reservedMask (2#4).toNat (0 + 1 + 1 + 1)) (lo := 0) (width := 7) w₃ (by decide +kernel)
        (by decide),
      reserved_field (mask := reservedMask (2#4).toNat (0 + 1 + 1 + 1 + 1)) (lo := 0) (width := 22) w₄ (by decide +kernel)
        (by decide), and_assoc]
  · exact portCheck_word names rfl (reserved_field w (by decide +kernel) (by decide))
  · exact portCheck_word names rfl (reserved_field w (by decide +kernel) (by decide))
  · have hfields : ∀ mask : Word, mask = 0x01C0FFFF → (w &&& mask = 0 ↔
        w.extractLsb' 22 3 = 0#3 ∧ w.extractLsb' 0 16 = 0#16) := fun mask hmask =>
      reserved_fields w (hmask.trans (by decide +kernel)) (by decide) (by decide)
    rcases names with names | names
    · exact portCheck_word names rfl (hfields _ rfl)
    · exact portCheck_word names rfl (hfields _ rfl)
  · rw [portCheck_none (words := [w₀, w₁]) (code := 7#4) (length := 2#3) names rfl]
    simp only [reservedFault_cons_none, reservedFault_nil, List.getD_cons_zero, and_true,
      reserved_field (mask := reservedMask (7#4).toNat 0) (lo := 4) (width := 21) w₀ (by decide +kernel) (by decide),
      reserved_none (mask := reservedMask (7#4).toNat (0 + 1)) w₁ (by decide)]
  · exact portCheck_word names rfl (reserved_field w (by decide +kernel) (by decide))
  · rw [portCheck, if_pos right] at fault
    obtain ⟨j, rfl, hfault⟩ := reservedFault_some fault
    simpa using hfault

end Sys2Proof.Machine
end

section
/-! Proofs about the words that the part returns: completion entries, the publication record and the reads of the port
window. -/

namespace Sys2Proof.Machine

open Sys2Proof.Safety

/-! ### Completion entries (section 10.5) -/

theorem lowWord_eq (x : BitVec 64) : lowWord x = x.extractLsb' 0 32 := by
  refine BitVec.eq_of_toNat_eq ?_
  simp [lowWord, BitVec.extractLsb'_toNat]

theorem highWord_eq (x : BitVec 64) : highWord x = x.extractLsb' 32 32 := by
  refine BitVec.eq_of_toNat_eq ?_
  simp [highWord, BitVec.extractLsb'_toNat]

/-- The two halves of a value, one over the other, are the value. -/
theorem highWord_append_lowWord (x : BitVec 64) : highWord x ++ lowWord x = x := by
  refine BitVec.eq_of_getLsbD_eq fun j hj => ?_
  rw [lowWord_eq, highWord_eq, BitVec.getLsbD_append]
  simp only [BitVec.getLsbD_extractLsb']
  grind

theorem exceptionNumber_bits (kind : ExceptionKind) :
    BitVec.ofNat 4 (exceptionNumber kind) =
      match kind with
      | .voidOperand => 1#4 | .precision => 2#4 | .overflow => 3#4 | .resultRange => 4#4 | .busError => 5#4
      | .busTimeout => 6#4 := by
  cases kind <;> rfl

theorem outcomeNumber_bits (n : Nat) (outcome : Option RoundOutcome) :
    BitVec.ofNat n (outcomeNumber outcome) =
      match outcome with
      | none => BitVec.ofNat n 0 | some .complete => BitVec.ofNat n 1 | some .faulted => BitVec.ofNat n 2
      | some .expired => BitVec.ofNat n 3 | some .aborted => BitVec.ofNat n 4 | some .lost => BitVec.ofNat n 5 := by
  rcases outcome with _ | outcome
  · rfl
  · cases outcome <;> rfl

/-- The five flags are the five low bits of their number. -/
theorem flagBits_testBit (f : RoundFlags) :
    (flagBits f).testBit 0 = f.empty ∧ (flagBits f).testBit 1 = f.saturated ∧ (flagBits f).testBit 2 = f.voidsSkipped
      ∧ (flagBits f).testBit 3 = f.wrapped ∧ (flagBits f).testBit 4 = f.precisionLost ∧ flagBits f < 32 := by
  obtain ⟨empty, saturated, voidsSkipped, wrapped, precisionLost⟩ := f
  revert empty saturated voidsSkipped wrapped precisionLost
  decide

/-- The flags of a word that holds them in `width` bits from `lo`. -/
theorem flags_of_field {n : Nat} {x : BitVec n} {lo width : Nat} {f : RoundFlags}
    (field : x.extractLsb' lo width = BitVec.ofNat width (flagBits f)) (fits : 5 ≤ width) :
    x.getLsbD lo = f.empty ∧ x.getLsbD (lo + 1) = f.saturated ∧ x.getLsbD (lo + 2) = f.voidsSkipped
      ∧ x.getLsbD (lo + 3) = f.wrapped ∧ x.getLsbD (lo + 4) = f.precisionLost := by
  have hbit : ∀ j, j < 5 → x.getLsbD (lo + j) = (flagBits f).testBit j := fun j hj => by
    rw [getLsbD_of_extract field j (by omega), BitVec.getLsbD_ofNat, decide_eq_true (by omega), Bool.true_and]
  obtain ⟨hempty, hsaturated, hvoids, hwrapped, hlost, -⟩ := flagBits_testBit f
  exact ⟨(hbit 0 (by decide)).trans hempty, (hbit 1 (by decide)).trans hsaturated, (hbit 2 (by decide)).trans hvoids,
    (hbit 3 (by decide)).trans hwrapped, (hbit 4 (by decide)).trans hlost⟩

theorem faultWords_length (fault : Option FaultRecord) : (faultWords fault).length = if fault.isSome then 2 else 0 := by
  rcases fault with _ | ⟨kind, _ | element⟩ <;> rfl

/-- The fields of a fault record's first word (R173). -/
def faultFields (f : FaultRecord) : List (Nat × Nat × Nat) :=
  match f.element with
  | none => [(31, 28, exceptionNumber f.kind)]
  | some e => [(31, 28, exceptionNumber f.kind), (27, 27, bit true), (26, 25, e.host.val), (23, 0, e.index)]

/-- The two words of a fault record (R173). -/
theorem faultWords_layout (f : FaultRecord) :
    let first := (faultWords (some f)).getD 0 0
    let second := (faultWords (some f)).getD 1 0
    (first.extractLsb' 28 4 =
        match f.kind with
        | .voidOperand => 1#4 | .precision => 2#4 | .overflow => 3#4 | .resultRange => 4#4 | .busError => 5#4
        | .busTimeout => 6#4)
      ∧ first.getLsbD 27 = f.element.isSome
      ∧ first.getLsbD 24 = false
      ∧ (f.element = none → first.extractLsb' 0 28 = 0#28 ∧ second = 0)
      ∧ ∀ e, f.element = some e →
        (first.extractLsb' 25 2).toNat = e.host.val
          ∧ (first.extractLsb' 0 24).toNat = e.index % 2 ^ 24
          ∧ second = e.address := by
  intro first second
  obtain ⟨kind, element⟩ := f
  have hpacked : packedFrom first (faultFields { kind := kind, element := element }) := by
    cases element <;> exact ⟨rfl, by simp [fieldsFall, faultFields]⟩
  have hkind : first.extractLsb' 28 4 = BitVec.ofNat 4 (exceptionNumber kind) :=
    hpacked.field 31 28 _ 4 (by cases element <;> simp [faultFields]) (by decide)
  refine ⟨hkind.trans (exceptionNumber_bits kind), ?_⟩
  cases element with
  | none =>
    refine ⟨hpacked.clear (by decide) (by simp [faultFields]), hpacked.clear (by decide) (by simp [faultFields]),
      fun _ => ⟨hpacked.gap (by decide) (by simp [faultFields]), rfl⟩, (fun e he => nomatch he)⟩
  | some e =>
    refine ⟨hpacked.bit (by simp [faultFields]) (by decide), hpacked.clear (by decide) (by simp [faultFields]),
      (fun he => nomatch he), fun e' he => ?_⟩
    cases he
    have hhost := hpacked.field 26 25 e.host.val 2 (by simp [faultFields]) (by decide)
    have hindex := hpacked.field 23 0 e.index 24 (by simp [faultFields]) (by decide)
    exact ⟨hhost ▸ toNat_ofNat_lt e.host.isLt, hindex ▸ BitVec.toNat_ofNat _ _, rfl⟩

/-- The codes that the first word of a notice holds for its kind and for the contribution's status. -/
def noticeNumbers : NoticeKind → Nat × Nat
  | .contributionEnd status => (1, contributionNumber status)
  | .waitEnd => (2, 0)

/-- The fields of a notice's first word (section 10.5). -/
def noticeFields (n : Notice) : List (Nat × Nat × Nat) :=
  [ (31, 28, (noticeNumbers n.kind).1), (27, 22, n.cell.val), (21, 19, outcomeNumber n.outcome),
    (18, 16, (noticeNumbers n.kind).2), (12, 8, flagBits n.flags), (3, 0, 6 + (faultWords n.fault).length) ]

theorem noticeWords_length (n : Notice) : (noticeWords n).length = 6 + (faultWords n.fault).length := by
  rw [noticeWords, List.length_append]
  rfl

theorem noticeWords_first (n : Notice) : packedFrom ((noticeWords n).getD 0 0) (noticeFields n) := by
  refine ⟨?_, by simp [fieldsFall, noticeFields]⟩
  obtain ⟨kind, _⟩ := n
  cases kind <;> rfl

theorem noticeWords_second (n : Notice) :
    packedFrom ((noticeWords n).getD 1 0) [(17, 16, publicationNumber n.publication), (15, 0, n.number.toNat)] :=
  ⟨rfl, by simp [fieldsFall]⟩

/-- Settles O8: each field of the first two words, the whole words after them, and the fault record's words. -/
theorem noticeWordsFollowTheirLayout : Obligations.NoticeWordsFollowTheirLayout := by
  intro n ws
  have hfirst := noticeWords_first n
  have hsecond := noticeWords_second n
  have hlength : ws.length = if n.fault.isSome then 8 else 6 := by
    rw [noticeWords_length, faultWords_length]
    split <;> rfl
  have hkind := hfirst.field 31 28 (noticeNumbers n.kind).1 4 (by simp [noticeFields]) (by decide)
  have hcell := hfirst.field 27 22 n.cell.val 6 (by simp [noticeFields]) (by decide)
  have houtcome := hfirst.field 21 19 (outcomeNumber n.outcome) 3 (by simp [noticeFields]) (by decide)
  have hstatus := hfirst.field 18 16 (noticeNumbers n.kind).2 3 (by simp [noticeFields]) (by decide)
  have hflags := hfirst.field 12 8 (flagBits n.flags) 5 (by simp [noticeFields]) (by decide)
  have hcount := hfirst.field 3 0 (6 + (faultWords n.fault).length) 4 (by simp [noticeFields]) (by decide)
  have hnumber := hsecond.field 15 0 n.number.toNat 16 (by simp) (by decide)
  have hpublication := hsecond.field 17 16 (publicationNumber n.publication) 2 (by simp) (by decide)
  refine ⟨hlength, ?_, hkind.trans ?_, hcell ▸ toNat_ofNat_lt n.cell.isLt, houtcome.trans (outcomeNumber_bits 3 n.outcome),
    fun status hkind hfinal => hstatus.trans ?_, fun hkind => hstatus.trans ?_,
    hfirst.gap (by decide) (by simp [noticeFields]), flags_of_field hflags (Nat.le_refl 5),
    hfirst.gap (by decide) (by simp [noticeFields]), hnumber.trans (ofNat_toNat_self _), hpublication.trans ?_,
    hsecond.gap (by decide) (by simp), lowWord_eq n.result, highWord_eq n.result, BitVec.toNat_ofNat _ _,
    BitVec.toNat_ofNat _ _, fun f hf => ?_⟩
  · rw [hcount, ← noticeWords_length]
    exact toNat_ofNat_lt (by rw [hlength]; split <;> decide)
  · cases n.kind <;> rfl
  · rw [hkind]
    cases status <;> rfl
  · rw [hkind]
    rfl
  · rcases n.publication with _ | publication
    · rfl
    · cases publication <;> rfl
  · have hwords := faultWords_layout f
    rw [← hf] at hwords
    exact hwords

/-- The fields of a REPORT's first word for a cell that is not FREE (section 10.5). -/
def reportFields (c : CellId) (r : Round) : List (Nat × Nat × Nat) :=
  [ (31, 28, 3), (27, 22, c.val), (21, 19, stateNumber (some r.phase)), (18, 16, outcomeNumber r.outcome),
    (15, 15, bit true), (14, 13, r.opener.val), (12, 12, bit r.walkInFlight.isSome), (11, 11, bit r.accumulator.isSome),
    (3, 0, 10 + (faultWords r.fault).length) ]

/-- The fields of a REPORT's second word. -/
def reportSets (number : RoundNumber) (r : Round) : List (Nat × Nat × Nat) :=
  [(27, 24, r.arrived.toNat), (23, 20, r.posted.toNat), (19, 16, r.participants.toNat), (15, 0, number.toNat)]

/-- The words of a REPORT of a cell that is not FREE. -/
abbrev openReport (c : CellId) (number : RoundNumber) (r : Round) : List Word :=
  reportWords { cell := c, record := { number := number, round := some r } }

theorem openReport_length (c : CellId) (number : RoundNumber) (r : Round) :
    (openReport c number r).length = 10 + (faultWords r.fault).length := by
  show (openReportWords c number r _ ++ faultWords r.fault).length = _
  rw [List.length_append]
  rfl

theorem openReport_first (c : CellId) (number : RoundNumber) (r : Round) :
    packedFrom ((openReport c number r).getD 0 0) (reportFields c r) :=
  ⟨rfl, by simp [fieldsFall, reportFields]⟩

theorem openReport_second (c : CellId) (number : RoundNumber) (r : Round) :
    packedFrom ((openReport c number r).getD 1 0) (reportSets number r) :=
  ⟨rfl, by simp [fieldsFall, reportSets]⟩

theorem openReport_deadline (c : CellId) (number : RoundNumber) (r : Round) :
    ((openReport c number r).getD 9 0).toNat = r.deadline % 2 ^ 16 := by
  show (packFields [(15, 0, r.deadline)]).toNat = _
  rw [packFields_one, pow_zero, mul_one, BitVec.toNat_ofNat]
  omega

theorem freeReport_first (c : CellId) :
    packFields [(31, 28, 3), (27, 22, c.val), (3, 0, 10)] = 3#4 ++ BitVec.ofNat 6 c.val ++ 10#22 := by
  revert c
  decide +kernel

/-- Settles O9: the words of a FREE cell, then each field of the words of one that is not. -/
theorem reportWordsFollowTheirLayout : Obligations.ReportWordsFollowTheirLayout := by
  intro c number
  refine ⟨?_, fun r => ?_⟩
  · rw [← freeReport_first, ← roundValue_eq]
    rfl
  intro ws
  have hfirst := openReport_first c number r
  have hsecond := openReport_second c number r
  have hlength : ws.length = if r.fault.isSome then 12 else 10 := by
    rw [openReport_length, faultWords_length]
    split <;> rfl
  have hkind := hfirst.field 31 28 3 4 (by simp [reportFields]) (by decide)
  have hcell := hfirst.field 27 22 c.val 6 (by simp [reportFields]) (by decide)
  have hstate := hfirst.field 21 19 (stateNumber (some r.phase)) 3 (by simp [reportFields]) (by decide)
  have houtcome := hfirst.field 18 16 (outcomeNumber r.outcome) 3 (by simp [reportFields]) (by decide)
  have hopener := hfirst.field 14 13 r.opener.val 2 (by simp [reportFields]) (by decide)
  have hcount := hfirst.field 3 0 (10 + (faultWords r.fault).length) 4 (by simp [reportFields]) (by decide)
  have hnumber := hsecond.field 15 0 number.toNat 16 (by simp [reportSets]) (by decide)
  have hparticipants := hsecond.field 19 16 r.participants.toNat 4 (by simp [reportSets]) (by decide)
  have hposted := hsecond.field 23 20 r.posted.toNat 4 (by simp [reportSets]) (by decide)
  have harrived := hsecond.field 27 24 r.arrived.toNat 4 (by simp [reportSets]) (by decide)
  have hvalue : ws.getD 3 0 ++ ws.getD 2 0 = BitVec.ofInt 64 (r.accumulator.getD 0) := highWord_append_lowWord _
  refine ⟨hlength, ?_, hkind, hcell ▸ toNat_ofNat_lt c.isLt, hstate.trans ?_,
    houtcome.trans (outcomeNumber_bits 3 r.outcome), hfirst.bit (by simp [reportFields]) (by decide),
    hopener ▸ toNat_ofNat_lt r.opener.isLt, hfirst.bit (by simp [reportFields]) (by decide),
    hfirst.bit (by simp [reportFields]) (by decide), hfirst.gap (by decide) (by simp [reportFields]),
    hnumber.trans (ofNat_toNat_self _), hparticipants.trans (ofNat_toNat_self _), hposted.trans (ofNat_toNat_self _),
    harrived.trans (ofNat_toNat_self _), hsecond.gap (by decide) (by simp [reportSets]), fun absent => ?_,
    fun a present => ?_, BitVec.toNat_ofNat _ _, BitVec.toNat_ofNat _ _, BitVec.toNat_ofNat _ _, BitVec.toNat_ofNat _ _,
    BitVec.toNat_ofNat _ _, openReport_deadline c number r, fun f hf => ?_⟩
  · rw [hcount, ← openReport_length c number r]
    exact toNat_ofNat_lt (by rw [hlength]; split <;> decide)
  · cases r.phase <;> rfl
  · constructor
    · show lowWord (BitVec.ofInt 64 (r.accumulator.getD 0)) = 0
      rw [absent]
      rfl
    · show highWord (BitVec.ofInt 64 (r.accumulator.getD 0)) = 0
      rw [absent]
      rfl
  · rw [hvalue, present]
    rfl
  · have hwords := faultWords_layout f
    rw [← hf] at hwords
    exact hwords

/-! ### The publication record (section 10.7) -/

/-- The fields of the second half of a publication record. -/
def recordFields (number : RoundNumber) (r : Round) : List (Nat × Nat × Nat) :=
  [ (60, 56, flagBits ((r.result.map (·.flags)).getD noFlags)), (55, 48, outcomeNumber r.outcome),
    (47, 32, number.toNat), (31, 0, r.tallies.combined) ]

theorem outcomeNumber_lt (outcome : Option RoundOutcome) : outcomeNumber outcome < 8 := by
  rcases outcome with _ | outcome
  · decide
  · cases outcome <;> decide

theorem recordSecondHalf_eq (number : RoundNumber) (r : Round) :
    recordSecondHalf number r = BitVec.ofNat 64 (placedSum (recordFields number r)) := by
  obtain ⟨-, -, -, -, -, hflags⟩ := flagBits_testBit ((r.result.map (·.flags)).getD noFlags)
  have houtcome := outcomeNumber_lt r.outcome
  have hnumber := number.isLt
  rw [recordSecondHalf]
  congr 1
  simp only [recordFields, placedSum_cons]
  simp only [placedSum, List.map_nil, List.sum_nil]
  omega

/-- A field of the second half of a publication record. -/
theorem recordSecondHalf_field (number : RoundNumber) (r : Round) (hi lo v width : Nat)
    (mem : (hi, lo, v) ∈ recordFields number r) (size : width = hi - lo + 1 ∧ hi < 64) :
    (recordSecondHalf number r).extractLsb' lo width = BitVec.ofNat width v := by
  obtain ⟨rfl, within⟩ := size
  have hfalls : fieldsFall (recordFields number r) := by simp [fieldsFall, recordFields]
  have hlo : lo ≤ hi := hfalls.2 _ mem
  rw [recordSecondHalf_eq, ofNat_extract _ (by omega), placedSum_field hfalls mem, ofNat_mod_self]

/-- Settles O10: the first half is the result's bits, and each field of the second. -/
theorem publicationRecordHoldsTheRound : Obligations.PublicationRecordHoldsTheRound := by
  intro c number r d res destination result small
  have hcombined := recordSecondHalf_field number r 31 0 r.tallies.combined 32 (by simp [recordFields]) (by decide)
  have hnumber := recordSecondHalf_field number r 47 32 number.toNat 16 (by simp [recordFields]) (by decide)
  have houtcome := recordSecondHalf_field number r 55 48 (outcomeNumber r.outcome) 8 (by simp [recordFields]) (by decide)
  have hflags := recordSecondHalf_field number r 60 56 (flagBits res.flags) 5 (by simp [recordFields, result]) (by decide)
  obtain ⟨hempty, hsaturated, hvoids, hwrapped, hlost⟩ := flags_of_field hflags (Nat.le_refl 5)
  refine ⟨{ cell := c, destination := d, firstHalf := recordFirstHalf r, secondHalf := recordSecondHalf number r
            step := .firstWrite, waiting := false },
    by simp only [composeRecord, destination, Option.map_some], rfl, rfl, rfl, rfl, fun v hv => ?_,
    fun void => ?_, (congrArg BitVec.toNat hcombined).trans (toNat_ofNat_lt small), hnumber.trans (ofNat_toNat_self _),
    houtcome.trans (outcomeNumber_bits 8 r.outcome), hempty, hsaturated, hvoids, hwrapped, hlost, ?_⟩
  · simp [recordFirstHalf, resultBits, result, hv]
  · simp only [recordFirstHalf, resultBits, result, void, Option.bind_some]
    cases r.settings.width <;> rfl
  · have hfalls : fieldsFall (recordFields number r) := by simp [fieldsFall, recordFields]
    show (recordSecondHalf number r).extractLsb' 61 3 = 0#3
    rw [recordSecondHalf_eq, ofNat_extract _ (by decide), placedSum_gap hfalls (by simp [recordFields])]

/-! ### The reads of the port window (section 10.4) -/
theorem statusNumber_bits (code : StatusCode) :
    BitVec.ofNat 5 (statusNumber code) =
      match code with
      | .none => 0#5 | .accepted => 1#5 | .unknownCommand => 2#5 | .badField => 3#5 | .badShape => 4#5
      | .badAlign => 5#5 | .cellBusy => 6#5 | .cellFree => 7#5 | .wrongRound => 8#5 | .roundClosed => 9#5
      | .notOpener => 10#5 | .notParticipant => 11#5 | .duplicate => 12#5 | .queueFull => 13#5
      | .hostQuota => 14#5 | .noCredit => 15#5 | .strideBusy => 16#5 | .notHeld => 17#5 := by
  cases code <;> rfl

/-- The fields of the COMMAND view. -/
def commandViewFields (p : HostPort) : List (Nat × Nat × Nat) :=
  [ (24, 23, viewNumber p.view), (22, 22, bit p.lineHeld), (21, 21, bit (decide (0 < p.awaited))),
    (20, 18, expectedLength p.framing), (17, 15, wordsHeld p.framing), (14, 13, framingNumber p.framing),
    (12, 8, statusNumber p.lastCode), (7, 0, p.ticket.toNat) ]

/-- The fields of the QUEUE view. -/
def queueViewFields (p : HostPort) (q : CompletionQueue) : List (Nat × Nat × Nat) :=
  [ (25, 24, viewNumber p.view), (23, 23, bit q.line), (22, 22, bit p.errorEnable), (21, 21, bit p.completionEnable),
    (20, 16, q.latch.toNat), (15, 12, q.cursor), (11, 6, q.reservations), (5, 0, q.entries.length) ]

theorem commandViewWord_fields (p : HostPort) : packedFrom (commandViewWord p) (commandViewFields p) :=
  ⟨rfl, by simp [fieldsFall, commandViewFields]⟩

theorem queueViewWord_fields (p : HostPort) (q : CompletionQueue) :
    packedFrom (queueViewWord p q) (queueViewFields p q) :=
  ⟨rfl, by simp [fieldsFall, queueViewFields]⟩

variable {s : State} {h : HostId}

/-- A read that the port answers carries the head entry's word and moves the queue on (R158). -/
theorem exec_responseRead_live (free : ∀ words stage, s.ports[h].framing ≠ .delivering words stage)
    (line : s.ports[h].lineHeld = false) (runs : s.deviceReset = false) :
    exec (.responseRead h) s =
      .next (State.settle { s with
        busData := s.busData.set h (responseWord s h)
        queues := s.queues.set h (withLine (readQueue s.queues[h]) s.ports[h]) }) := by
  show hostAccess s h _ = _
  rw [hostAccess_free free, if_neg (portInert_live line runs), putQueue_eq]

theorem responseWord_inert (inert : s.ports[h].lineHeld = true ∨ s.deviceReset = true) : responseWord s h = 0 := by
  rw [responseWord, if_pos (by simpa using inert)]

theorem responseWord_head {e : Entry} {rest : List Entry} (entries : s.queues[h].entries = e :: rest)
    (line : s.ports[h].lineHeld = false) (runs : s.deviceReset = false) :
    responseWord s h = (entryWords e).getD s.queues[h].cursor 0 := by
  rw [responseWord, if_neg (by rw [line, runs]; decide), entries]

theorem responseWord_empty (entries : s.queues[h].entries = []) : responseWord s h = 0 := by
  rw [responseWord, entries]
  split <;> rfl

/-- A read of an empty queue, or in reset, carries the NONE word and changes nothing else (R147, R151, R159). -/
theorem exec_responseRead_none (free : ∀ words stage, s.ports[h].framing ≠ .delivering words stage)
    (none : s.queues[h].entries = [] ∨ s.ports[h].lineHeld = true ∨ s.deviceReset = true)
    (line : s.queues[h] = withLine s.queues[h] s.ports[h]) :
    exec (.responseRead h) s = .next (State.settle { s with busData := s.busData.set h 0 }) := by
  by_cases inert : s.ports[h].lineHeld = true ∨ s.deviceReset = true
  · show hostAccess s h _ = _
    rw [hostAccess_free free, if_pos (portInert_iff.2 inert), responseWord_inert inert]
  · have hlive : s.ports[h].lineHeld = false ∧ s.deviceReset = false := by simpa using inert
    have hempty : s.queues[h].entries = [] := none.resolve_right inert
    have hqueue : readQueue s.queues[h] = s.queues[h] := by simp only [readQueue, hempty]
    rw [exec_responseRead_live free hlive.1 hlive.2, responseWord_empty hempty, hqueue, ← line]
    simp

theorem portStatusWord_command (view : s.ports[h].view = .command) :
    packedFrom (portStatusWord s h) (commandViewFields s.ports[h]) := by
  rw [portStatusWord, view]
  exact commandViewWord_fields _

theorem portStatusWord_value (view : s.ports[h].view = .value) : portStatusWord s h = s.ports[h].lastValue := by
  rw [portStatusWord, view]

theorem portStatusWord_queue (view : s.ports[h].view = .queue) :
    packedFrom (portStatusWord s h) (queueViewFields s.ports[h] s.queues[h]) := by
  rw [portStatusWord, view]
  exact queueViewWord_fields _ _

/-- Settles O21: the three reads of RESPONSE, and the fields of the two views. -/
theorem readsOfThePortWindowReturnTheirWords : Obligations.ReadsOfThePortWindowReturnTheirWords := by
  intro s h p q status
  refine ⟨fun free => ?_, fun view => ?_, portStatusWord_value, fun view => ?_, rfl, rfl, rfl, ?_⟩
  · intro reads
    refine ⟨fun e rest entries line runs => ?_, exec_responseRead_none free⟩
    have hread := exec_responseRead_live free line runs
    rw [responseWord_head entries line runs] at hread
    refine ⟨fun more => hread.trans ?_, fun last => hread.trans ?_⟩
    · rw [readQueue, entries]
      dsimp only
      rw [if_pos more]
    · rw [readQueue, entries]
      dsimp only
      rw [if_neg (not_lt.2 last)]
  · have hfields : packedFrom status (commandViewFields p) := portStatusWord_command view
    have hview := hfields.field 24 23 (viewNumber p.view) 2 (by simp [commandViewFields]) (by decide)
    have hexpected := hfields.field 20 18 (expectedLength p.framing) 3 (by simp [commandViewFields]) (by decide)
    have hheld := hfields.field 17 15 (wordsHeld p.framing) 3 (by simp [commandViewFields]) (by decide)
    have hframing := hfields.field 14 13 (framingNumber p.framing) 2 (by simp [commandViewFields]) (by decide)
    have hcode := hfields.field 12 8 (statusNumber p.lastCode) 5 (by simp [commandViewFields]) (by decide)
    have hticket := hfields.field 7 0 p.ticket.toNat 8 (by simp [commandViewFields]) (by decide)
    refine ⟨hfields.gap (by decide) (by simp [commandViewFields]), hview.trans (by rw [view]; rfl),
      hfields.bit (by simp [commandViewFields]) (by decide),
      hfields.bit (b := decide (0 < p.awaited)) (by simp [commandViewFields]) (by decide), fun empty => ?_, fun words expected assembling => ?_, fun words stage delivering => ?_,
      hcode.trans (statusNumber_bits _), hticket.trans (ofNat_toNat_self _)⟩
    · rw [hexpected, hheld, hframing, empty]
      exact ⟨rfl, rfl, rfl⟩
    · rw [hexpected, hheld, hframing, assembling]
      exact ⟨BitVec.toNat_ofNat _ _, BitVec.toNat_ofNat _ _, rfl⟩
    · rw [hexpected, hheld, hframing, delivering]
      exact ⟨BitVec.toNat_ofNat _ _, rfl, rfl⟩
  · have hfields : packedFrom status (queueViewFields p q) := portStatusWord_queue view
    have hview := hfields.field 25 24 (viewNumber p.view) 2 (by simp [queueViewFields]) (by decide)
    have hlatch := hfields.field 20 16 q.latch.toNat 5 (by simp [queueViewFields]) (by decide)
    have hcursor := hfields.field 15 12 q.cursor 4 (by simp [queueViewFields]) (by decide)
    have hreservations := hfields.field 11 6 q.reservations 6 (by simp [queueViewFields]) (by decide)
    have hentries := hfields.field 5 0 q.entries.length 6 (by simp [queueViewFields]) (by decide)
    exact ⟨hfields.gap (by decide) (by simp [queueViewFields]), hview.trans (by rw [view]; rfl),
      hfields.bit (by simp [queueViewFields]) (by decide), hfields.bit (by simp [queueViewFields]) (by decide),
      hfields.bit (by simp [queueViewFields]) (by decide), hlatch.trans (ofNat_toNat_self _),
      hcursor ▸ BitVec.toNat_ofNat _ _, hreservations ▸ BitVec.toNat_ofNat _ _, hentries ▸ BitVec.toNat_ofNat _ _⟩
  · show responseWord s h = _
    by_cases inert : s.ports[h].lineHeld = true ∨ s.deviceReset = true
    · rw [if_pos inert, responseWord_inert inert]
    · have hlive : s.ports[h].lineHeld = false ∧ s.deviceReset = false := by simpa using inert
      rw [if_neg inert]
      cases hentries : s.queues[h].entries with
      | nil => exact responseWord_empty hentries
      | cons e rest => exact responseWord_head hentries hlive.1 hlive.2

end Sys2Proof.Machine
end

section
/-! Proofs about MAX and MIN and about the address generator. -/

namespace Sys2Proof.Machine

open Sys2Proof.Safety

/-! ### MAX and MIN (R10) -/

/-- The further of two numbers under MAX or MIN. -/
def further (operation : Operation) (a v : Int) : Int :=
  if operation = .max then max a v else min a v

/-- The accumulator after one more value under MAX or MIN. -/
def furthest (operation : Operation) (accumulator : Option Int) (v : Int) : Option Int :=
  some (accumulator.elim v fun a => further operation a v)

/-- No value exceeds `m` under MAX, or undercuts it under MIN. -/
def reaches (operation : Operation) (m v : Int) : Prop :=
  if operation = .max then v ≤ m else m ≤ v

theorem reaches_trans {operation : Operation} {a b c : Int} (h : reaches operation a b) (h' : reaches operation b c) :
    reaches operation a c := by
  unfold reaches at *
  split <;> simp_all <;> omega

theorem further_spec (operation : Operation) (a v : Int) :
    (further operation a v = a ∨ further operation a v = v)
      ∧ reaches operation (further operation a v) a ∧ reaches operation (further operation a v) v := by
  unfold further reaches
  split <;> omega

theorem furthest_comm (operation : Operation) (accumulator : Option Int) (v w : Int) :
    furthest operation (furthest operation accumulator v) w = furthest operation (furthest operation accumulator w) v := by
  cases accumulator <;> simp only [furthest, further, Option.elim] <;> split <;> congr 1 <;> omega

theorem combineValue_furthest {settings : CombineSettings} (extreme : settings.operation ≠ .sum)
    (accumulator : Option Int) (v : Int) (t : Tallies) :
    combineValue settings accumulator v t =
      .recorded (furthest settings.operation accumulator v) { t with combined := t.combined + 1 } := by
  unfold combineValue
  cases hoperation : settings.operation with
  | sum => exact absurd hoperation extreme
  | max => cases accumulator <;> grind [furthest, further, Option.elim]
  | min => cases accumulator <;> grind [furthest, further, Option.elim]

/-- Combining a list under MAX or MIN folds it into the accumulator and counts it. -/
theorem combineAll_furthest {settings : CombineSettings} (extreme : settings.operation ≠ .sum) (accumulator : Option Int)
    (t : Tallies) (l : List Int) :
    combineAll settings (.recorded accumulator t) l =
      .recorded (l.foldl (furthest settings.operation) accumulator) { t with combined := t.combined + l.length } := by
  induction l generalizing accumulator t with
  | nil => rfl
  | cons v rest ih =>
    rw [combineAll, combineValue_furthest extreme, ih, List.foldl_cons, List.length_cons]
    congr 2
    dsimp only
    omega

/-- The value that a list leaves is the accumulator's or one of the list's, and reaches them all. -/
theorem foldl_furthest_spec (operation : Operation) (a : Int) (l : List Int) :
    ∃ m, l.foldl (furthest operation) (some a) = some m ∧ (a = m ∨ m ∈ l) ∧ reaches operation m a
      ∧ ∀ v ∈ l, reaches operation m v := by
  induction l generalizing a with
  | nil => exact ⟨a, rfl, .inl rfl, by simp [reaches], by simp⟩
  | cons v rest ih =>
    obtain ⟨hone, ha, hv⟩ := further_spec operation a v
    obtain ⟨m, hm, hmem, hfirst, hrest⟩ := ih (further operation a v)
    refine ⟨m, hm, ?_, reaches_trans hfirst ha, List.forall_mem_cons.2 ⟨reaches_trans hfirst hv, hrest⟩⟩
    rcases hmem with rfl | hmem
    · exact hone.imp Eq.symm fun h => List.mem_cons.2 (.inl h)
    · exact .inr (List.mem_cons_of_mem _ hmem)

/-- Settles O14: the order of the elements does not matter to the fold, and its value reaches them all. -/
theorem maxAndMinAreOrderFree : Obligations.MaxAndMinAreOrderFree := by
  intro settings acc t l₁ l₂ extreme perm
  rw [combineAll_furthest extreme, combineAll_furthest extreme]
  refine ⟨?_, fun nonempty => ?_⟩
  · rw [perm.foldl_eq' (fun v _ w _ accumulator => furthest_comm _ accumulator v w) acc, perm.length_eq]
  · obtain ⟨v, rest, rfl⟩ := List.exists_cons_of_ne_nil nonempty
    have hm : ∃ m, (v :: rest).foldl (furthest settings.operation) acc = some m ∧ (acc = some m ∨ m ∈ v :: rest)
        ∧ (∀ x ∈ v :: rest, reaches settings.operation m x) ∧ ∀ a, acc = some a → reaches settings.operation m a := by
      cases acc with
      | none =>
        obtain ⟨m, hm, hmem, hfirst, hrest⟩ := foldl_furthest_spec settings.operation v rest
        exact ⟨m, hm, .inr (List.mem_cons.2 (hmem.imp Eq.symm id)), List.forall_mem_cons.2 ⟨hfirst, hrest⟩,
          (fun a ha => nomatch ha)⟩
      | some a =>
        obtain ⟨m, hm, hmem, hfirst, hrest⟩ := foldl_furthest_spec settings.operation a (v :: rest)
        exact ⟨m, hm, hmem.imp (congrArg some) id, hrest, fun b hb => Option.some.inj hb ▸ hfirst⟩
    obtain ⟨m, hm, hmem, hall, hacc⟩ := hm
    refine ⟨m, by rw [hm], hmem, fun hmax => ?_, fun hmin => ?_⟩
    · simpa only [reaches, hmax, if_true] using And.intro hall hacc
    · simpa only [reaches, hmin, reduceCtorEq, if_false] using And.intro hall hacc

/-! ### The address generator (section 4.4) -/

theorem ofInt_offset (base : Addr) (x y : Int) :
    offsetAddress (base + BitVec.ofInt 32 x) y = base + BitVec.ofInt 32 (x + y) := by
  rw [offsetAddress, BitVec.add_assoc, ← BitVec.ofInt_add]

section Digits

variable {n k : Nat}

/-- Below the last digit a step adds one to the digit. -/
theorem step_digit (below : n % k + 1 < k) : (n + 1) % k = n % k + 1 ∧ (n + 1) / k = n / k := by
  have hn : n + 1 = k * (n / k) + (n % k + 1) := by
    have := Nat.div_add_mod n k
    omega
  rw [hn, Nat.mul_add_mod, Nat.mul_add_div (by omega), Nat.mod_eq_of_lt below, Nat.div_eq_of_lt below]
  exact ⟨rfl, rfl⟩

/-- At the last digit a step carries. -/
theorem step_carry (last : n % k + 1 = k) : (n + 1) % k = 0 ∧ (n + 1) / k = n / k + 1 := by
  have hn : n + 1 = k * (n / k + 1) := by
    have := Nat.div_add_mod n k
    rw [Nat.mul_add, Nat.mul_one]
    omega
  have hk : 0 < k := by omega
  rw [hn, Nat.mul_mod_right, Nat.mul_div_cancel_left _ hk]
  exact ⟨rfl, rfl⟩

/-- Before a multiple stands the last digit. -/
theorem last_digit (pos : 0 < k) (multiple : k ∣ n + 1) : n % k + 1 = k := by
  have hlt := Nat.mod_lt n pos
  by_contra hne
  have hstep := (step_digit (n := n) (k := k) (by omega)).1
  rw [Nat.mod_eq_zero_of_dvd multiple] at hstep
  omega

end Digits

variable {strides : Vector StrideEntry 16} {d : Descriptor} {g : Generator}

theorem advance_inner (going : g.exhausted = false) (inner : g.inner + 1 < d.inner) :
    advanceGenerator strides d g =
      { g with address := offsetAddress g.address (d.step * elementSize d.format), inner := g.inner + 1 } := by
  rw [advanceGenerator, if_neg (Bool.eq_false_iff.1 going), if_pos inner]

theorem advance_middle (going : g.exhausted = false) (inner : ¬g.inner + 1 < d.inner)
    (middle : g.middle + 1 < d.middle) :
    advanceGenerator strides d g =
      { g with
        address := offsetAddress g.address strides[d.middleEntry].value, inner := 0, middle := g.middle + 1 } := by
  rw [advanceGenerator, if_neg (Bool.eq_false_iff.1 going), if_neg inner, if_pos middle]

theorem advance_outer (going : g.exhausted = false) (inner : ¬g.inner + 1 < d.inner)
    (middle : ¬g.middle + 1 < d.middle) (outer : g.outer + 1 < d.outer) :
    advanceGenerator strides d g =
      { g with
        address := offsetAddress g.address strides[d.outerEntry].value, inner := 0, middle := 0
        outer := g.outer + 1 } := by
  rw [advanceGenerator, if_neg (Bool.eq_false_iff.1 going), if_neg inner, if_neg middle, if_pos outer]

theorem advance_last (inner : ¬g.inner + 1 < d.inner) (middle : ¬g.middle + 1 < d.middle)
    (outer : ¬g.outer + 1 < d.outer) : (advanceGenerator strides d g).exhausted = true := by
  rw [advanceGenerator, if_neg inner, if_neg middle, if_neg outer]
  split
  next done => exact done
  · rfl

theorem advance_exhausted (done : g.exhausted = true) : advanceGenerator strides d g = g := by
  rw [advanceGenerator, if_pos done]

/-- The jump from one inner run to the next (R75), 0 for a walk of one dimension. -/
def middleJump (strides : Vector StrideEntry 16) (d : Descriptor) : Int :=
  if d.dims = 1 then 0 else strides[d.middleEntry].value

/-- The jump from one plane to the next (R75), 0 for a walk of fewer than three dimensions. -/
def outerJump (strides : Vector StrideEntry 16) (d : Descriptor) : Int :=
  if d.dims = 3 then strides[d.outerEntry].value else 0

/-- The distance of the element at given positions from the base (R75). -/
def walkDistance (strides : Vector StrideEntry 16) (d : Descriptor) (outer middle inner : Nat) : Int :=
  let a : Int := d.step * (elementSize d.format : Int)
  let line : Int := (d.inner - 1 : Int) * a + middleJump strides d
  let plane : Int := (d.middle - 1 : Int) * line + (d.inner - 1 : Int) * a + outerJump strides d
  outer * plane + middle * line + inner * a

/-- The generator that is to hand over the element at given positions. -/
def generatorAt (strides : Vector StrideEntry 16) (d : Descriptor) (outer middle inner : Nat) : Generator :=
  { address := d.base + BitVec.ofInt 32 (walkDistance strides d outer middle inner)
    inner := inner, middle := middle, outer := outer, exhausted := false }

theorem startGenerator_eq (strides : Vector StrideEntry 16) (d : Descriptor) :
    startGenerator d = generatorAt strides d 0 0 0 := by
  simp [startGenerator, generatorAt, walkDistance]

theorem generatorAt_inner {o m i : Nat} (inner : i + 1 < d.inner) :
    advanceGenerator strides d (generatorAt strides d o m i) = generatorAt strides d o m (i + 1) := by
  rw [advance_inner rfl inner]
  simp only [generatorAt, ofInt_offset, Generator.mk.injEq, and_self, and_true]
  congr 2
  simp only [walkDistance]
  push_cast
  ring

theorem generatorAt_middle {o m i : Nat} (shape : shapeSound d) (inner : i + 1 = d.inner) (middle : m + 1 < d.middle) :
    advanceGenerator strides d (generatorAt strides d o m i) = generatorAt strides d o (m + 1) 0 := by
  have hdims : d.dims ≠ 1 := by
    obtain ⟨-, -, -, ⟨-, hone, -⟩ | ⟨htwo, -⟩ | hthree⟩ := shape <;> omega
  rw [advance_middle rfl (by simp [generatorAt, inner]) middle]
  simp only [generatorAt, ofInt_offset, Generator.mk.injEq, and_self, and_true]
  congr 2
  simp only [walkDistance, middleJump, if_neg hdims, ← inner]
  push_cast
  ring

theorem generatorAt_outer {o m i : Nat} (shape : shapeSound d) (inner : i + 1 = d.inner) (middle : m + 1 = d.middle)
    (outer : o + 1 < d.outer) :
    advanceGenerator strides d (generatorAt strides d o m i) = generatorAt strides d (o + 1) 0 0 := by
  have hdims : d.dims = 3 := by
    obtain ⟨-, -, -, ⟨-, -, hone⟩ | ⟨-, hone⟩ | hthree⟩ := shape <;> omega
  rw [advance_outer rfl (by simp [generatorAt, inner]) (by simp [generatorAt, middle]) outer]
  simp only [generatorAt, ofInt_offset, Generator.mk.injEq, and_self, and_true]
  congr 2
  simp only [walkDistance, outerJump, if_pos hdims, ← inner, ← middle]
  push_cast
  ring

/-- Element `n` of a walk is numbered by its positions (R72). -/
theorem element_positions (d : Descriptor) (n : Nat) :
    (n / (d.inner * d.middle) * d.middle + n / d.inner % d.middle) * d.inner + n % d.inner = n := by
  rw [← Nat.div_div_eq_div_mul, Nat.div_add_mod', Nat.div_add_mod']

/-- Before element `n` of the walk the generator stands at its positions. -/
theorem generatorAfter_eq (shape : shapeSound d) (n : Nat) (below : n < d.inner * d.middle * d.outer) :
    generatorAfter strides d n =
      generatorAt strides d (n / (d.inner * d.middle)) (n / d.inner % d.middle) (n % d.inner) := by
  induction n with
  | zero =>
    rw [Nat.zero_div, Nat.zero_div, Nat.zero_mod, Nat.zero_mod]
    exact startGenerator_eq strides d
  | succ n ih =>
    have hinner : 1 ≤ d.inner := shape.1
    have hmiddle : 1 ≤ d.middle := shape.2.1
    rw [generatorAfter, ih (by omega), ← Nat.div_div_eq_div_mul, ← Nat.div_div_eq_div_mul]
    have hi : n % d.inner < d.inner := Nat.mod_lt _ (by omega)
    have hm : n / d.inner % d.middle < d.middle := Nat.mod_lt _ (by omega)
    rcases Nat.lt_or_ge (n % d.inner + 1) d.inner with inner | inner
    · obtain ⟨hdigit, hrest⟩ := step_digit inner
      rw [generatorAt_inner inner, hdigit, hrest]
    obtain ⟨hdigit, hrest⟩ := step_carry (show n % d.inner + 1 = d.inner by omega)
    rcases Nat.lt_or_ge (n / d.inner % d.middle + 1) d.middle with middle | middle
    · obtain ⟨hdigit', hrest'⟩ := step_digit middle
      rw [generatorAt_middle shape (by omega) middle, hdigit, hrest, hdigit', hrest']
    obtain ⟨hdigit', hrest'⟩ := step_carry (show n / d.inner % d.middle + 1 = d.middle by omega)
    have houter : n / d.inner / d.middle + 1 < d.outer := by
      rw [← hrest', ← hrest, Nat.div_div_eq_div_mul]
      exact Nat.div_lt_of_lt_mul below
    rw [generatorAt_outer shape (by omega) (by omega) houter, hdigit, hrest, hdigit', hrest']

/-- After the last element the generator is exhausted (R79). -/
theorem generatorAfter_exhausted (shape : shapeSound d) {n : Nat} (done : d.inner * d.middle * d.outer ≤ n) :
    (generatorAfter strides d n).exhausted = true := by
  induction n, done using Nat.le_induction with
  | base =>
    obtain ⟨hinner, hmiddle, houter, -⟩ := id shape
    obtain ⟨n, hn⟩ := Nat.exists_eq_add_of_le' (Nat.mul_pos (Nat.mul_pos hinner hmiddle) houter)
    have hlast : n + 1 = d.inner * (d.middle * d.outer) := by rw [← hn, Nat.mul_assoc]
    have hi := last_digit hinner (Dvd.intro _ hlast.symm)
    have hrest : n / d.inner + 1 = d.middle * d.outer := by
      rw [← (step_carry hi).2, hlast, Nat.mul_div_cancel_left _ hinner]
    have hm := last_digit hmiddle (Dvd.intro _ hrest.symm)
    have ho : n / d.inner / d.middle + 1 = d.outer := by
      rw [← (step_carry hm).2, hrest, Nat.mul_div_cancel_left _ hmiddle]
    rw [hn, generatorAfter, generatorAfter_eq shape n (by omega), ← Nat.div_div_eq_div_mul]
    exact advance_last (by simp [generatorAt, hi]) (by simp [generatorAt, hm]) (by simp [generatorAt, ho])
  | succ n _ ih => rw [generatorAfter, advance_exhausted ih]; exact ih

/-- Settles O16: the generator stands at each element's positions, and is exhausted after the last. -/
theorem generatorFollowsTheClosedForm : Obligations.GeneratorFollowsTheClosedForm := by
  intro strides d n shape g i m o a middleStride outerStride line plane
  refine ⟨fun below => ?_, generatorAfter_exhausted shape⟩
  have hg : g = generatorAt strides d o m i := generatorAfter_eq shape n below
  rw [hg]
  exact ⟨rfl, rfl, rfl, rfl, element_positions d n, rfl⟩

/-! ### Alignment (section 4.2) -/

/-- A multiple of the element size stays one when a distance that is a multiple is added: the size divides 2^32. -/
theorem offsetAddress_aligned {format : ElementFormat} {address : Addr} {distance : Int}
    (base : elementSize format ∣ address.toNat) (jump : (elementSize format : Int) ∣ distance) :
    elementSize format ∣ (offsetAddress address distance).toNat := by
  rw [offsetAddress, BitVec.toNat_add, BitVec.toNat_ofInt]
  cases format <;> simp only [elementSize] at base jump ⊢ <;> omega

/-- A descriptor that passes the alignment test names aligned entries alone (R73). -/
theorem misaligned_false (aligned : misaligned strides d = false) :
    elementSize d.format ∣ d.base.toNat
      ∧ ∀ e ∈ namings d, (elementSize d.format : Int) ∣ strides[e].value := by
  simp only [misaligned, Bool.or_eq_false_iff, decide_eq_false_iff_not, not_not, List.any_eq_false,
    decide_eq_true_eq] at aligned
  exact ⟨Nat.dvd_of_mod_eq_zero aligned.1, fun e he => Int.dvd_of_emod_eq_zero (aligned.2 e he)⟩

/-- Each jump of the generator is a multiple of the element size. -/
theorem advanceGenerator_aligned (shape : shapeSound d) (aligned : misaligned strides d = false)
    (address : elementSize d.format ∣ g.address.toNat) :
    elementSize d.format ∣ (advanceGenerator strides d g).address.toNat := by
  obtain ⟨-, hentries⟩ := misaligned_false aligned
  unfold advanceGenerator
  split
  · exact address
  split
  · exact offsetAddress_aligned address (Int.dvd_mul_left _ _)
  split
  next middle =>
    refine offsetAddress_aligned address (hentries _ ?_)
    obtain ⟨-, -, -, ⟨-, hone, -⟩ | ⟨htwo, -⟩ | hthree⟩ := shape
    · omega
    · simp [namings, htwo]
    · simp [namings, hthree]
  split
  next outer =>
    refine offsetAddress_aligned address (hentries _ ?_)
    obtain ⟨-, -, -, ⟨-, -, hone⟩ | ⟨-, hone⟩ | hthree⟩ := shape
    · omega
    · omega
    · simp [namings, hthree]
  · exact address

theorem generatorAfter_aligned (shape : shapeSound d) (aligned : misaligned strides d = false) (n : Nat) :
    elementSize d.format ∣ (generatorAfter strides d n).address.toNat := by
  induction n with
  | zero => exact (misaligned_false aligned).1
  | succ n ih => exact advanceGenerator_aligned shape aligned ih

/-- Settles O17: an aligned element lies within its 8-byte unit, for the size divides 8. -/
theorem everyElementAddressIsAligned : Obligations.EveryElementAddressIsAligned := by
  intro strides d n shape aligned g
  have haligned : elementSize d.format ∣ g.address.toNat := generatorAfter_aligned shape aligned n
  refine ⟨haligned, ?_⟩
  cases hformat : d.format <;> rw [hformat] at haligned <;> simp only [elementSize] at haligned ⊢ <;> omega

end Sys2Proof.Machine
end

section
/-! Proofs about CONTRIBUTE in COLLECTING, DONE reports and deadline ticks. -/

namespace Sys2Proof.Machine

open Sys2Proof.Safety

variable {s : State} {h : HostId} {c : CellId} {r : Round} {words : List Word}

/-! ### CONTRIBUTE -/

theorem contributeChecks_badField (bad : contributeFieldFault words = true) :
    firstRefusal (contributeChecks s h words) = some .badField := by
  rw [contributeChecks, bad]
  rfl

/-- On a FREE cell the ordered checks of CONTRIBUTE, past those on its words, give CELL_FREE. -/
theorem contributeChecks_free {format : ElementFormat} (hformat : (decodeContribute words).format = some format)
    (free : s.cells[(decodeContribute words).cell].round = none) :
    firstRefusal (contributeChecks s h words) =
      if contributeBadField (decodeContribute words) then some .badField
      else if contributeBadShape (decodeContribute words) then some .badShape
      else some .cellFree := by
  simp only [contributeChecks, contributeFieldFault_eq, contributeShapeFault_eq, hformat, free, firstRefusal_cons,
    Option.isNone_some, Option.isNone_none, Bool.false_or, if_true]

/-- A refused CONTRIBUTE changes nothing but its decision (R25, R28). -/
theorem takeContribute_refused {code : StatusCode} (refused : firstRefusal (contributeChecks s h words) = some code) :
    takeContribute s h words = decisionOnly s h words code (s.cells[commandCell words].number.setWidth 32) := by
  rw [← refuseCommand_eq, takeContribute]
  cases hformat : (decodeContribute words).format with
  | none =>
    have hfault : contributeFieldFault words = true := by rw [contributeFieldFault_eq, hformat]; rfl
    rw [contributeChecks_badField hfault] at refused
    cases refused
    rfl
  | some format =>
    cases hround : s.cells[(decodeContribute words).cell].round with
    | none =>
      rw [contributeChecks_free hformat hround] at refused
      dsimp only
      split at refused <;> rename_i hfield
      · cases refused
        rw [if_pos hfield]
      split at refused <;> rename_i hshape
      · cases refused
        rw [if_neg hfield, if_pos hshape]
      · cases refused
        rw [if_neg hfield, if_neg hshape]
    | some r =>
      rw [contributeChecks_some h hformat hround] at refused
      dsimp only
      split at refused <;> rename_i hfield
      · cases refused
        rw [if_pos hfield]
      split at refused <;> rename_i hshape
      · cases refused
        rw [if_neg hfield, if_pos hshape]
      · rw [if_neg hfield, if_neg hshape]
        simp only [refused]

/-- Settles O28: refused with the first failing check's code, or accepted. -/
theorem contributeIsCheckedInOrder : Obligations.ContributeIsCheckedInOrder := by
  intro s h words cell hover
  have hexec : exec (.contribute h) s = .next (takeContribute s h words).settle := ownerTakes_handed hover _
  refine ⟨fun code refused => by rw [hexec, takeContribute_refused refused], fun pass => ?_⟩
  obtain ⟨format, hformat⟩ := contributeChecks_format pass
  cases hround : s.cells[(decodeContribute words).cell].round with
  | none =>
    rw [contributeChecks_free hformat hround] at pass
    split at pass
    · cases pass
    split at pass
    · cases pass
    · cases pass
  | some r =>
    rw [hexec, takeContribute_accepted pass hformat hround]
    exact ⟨_, _, rfl, congrArg HostPort.framing (set_same _ _ _)⟩

/-- The entry goes behind every entry of its priority or a higher one, and before every other (R95). -/
theorem insertContribution_place (e : Contribution) {l : List Contribution}
    (sorted : l.Pairwise fun a b => b.priority ≤ a.priority) :
    ∃ front back, l = front ++ back ∧ insertContribution e l = front ++ e :: back
      ∧ (∀ x ∈ front, e.priority ≤ x.priority) ∧ ∀ x ∈ back, x.priority < e.priority := by
  obtain ⟨front, back, rfl, hinsert, hfront, hback⟩ := insertContribution_split e l
  refine ⟨front, back, rfl, hinsert, hfront, fun x hx => ?_⟩
  obtain ⟨-, hsorted, -⟩ := List.pairwise_append.1 sorted
  cases back with
  | nil => cases hx
  | cons y rest =>
    have hy := hback y rest rfl
    rcases List.mem_cons.1 hx with rfl | hx
    · exact hy
    · exact (List.rel_of_pairwise_cons hsorted hx).trans_lt hy

/-- A CONTRIBUTE accepted in COLLECTING finds its host below its quota (R28). -/
theorem contributeChecks_quota {format : ElementFormat} (pass : firstRefusal (contributeChecks s h words) = none)
    (hformat : (decodeContribute words).format = some format)
    (round : s.cells[(decodeContribute words).cell].round = some r) (collecting : r.phase = .collecting) :
    s.hostCounts[h] < 16 := by
  rw [contributeChecks_some h hformat round] at pass
  split at pass
  · cases pass
  split at pass
  · cases pass
  · obtain ⟨-, -, -, -, hquota, -⟩ := roundRefusal_none pass
    exact (hquota collecting).2

/-- Settles O26: the effect of an accepted CONTRIBUTE in COLLECTING, the entry at its place. -/
theorem contributeIsQueuedAndBound : Obligations.ContributeIsQueuedAndBound := by
  intro s h words format r f cell d e hover hformat round collecting pass sorted
  have hexec : exec (.contribute h) s = .next (takeContribute s h words).settle := ownerTakes_handed hover _
  obtain ⟨front, back, hlist, hinsert, hfront, hback⟩ := insertContribution_place e sorted
  have hquota := contributeChecks_quota pass hformat round collecting
  have haccept : acceptContribute s h f d r = ((s.reserve h).putRound f.cell (r.post h)).enqueue e := if_pos collecting
  have hcounts : (acceptContribute s h f d r).hostCounts = s.hostCounts.set h (s.hostCounts[h] + 1) := by
    rw [haccept]
    rfl
  have hvalue : (acceptContribute s h f d r).hostCounts[h] % 32 = s.hostCounts[h] + 1 := by
    rw [hcounts, set_same]
    omega
  have htake : takeContribute s h words = decisionOnly (acceptContribute s h f d r) h words .accepted
      (BitVec.ofNat 32 (s.hostCounts[h] + 1)) := by
    rw [← hvalue]
    exact takeContribute_accepted pass hformat round
  refine ⟨_, front, back, hexec, hlist, hfront, hback, ?_, fun x => ?_⟩
  · rw [htake, haccept, ← hinsert]
    simp only [State.enqueue, reserve_eq]
    rfl
  · rw [htake, haccept]
    exact bindRefs_get (namings d) s.strides x

/-! ### DONE reports -/

theorem commitWalk_more {host : HostId} (s : State) (c : CellId) (accumulator : Option Int) (t : Tallies)
    (more : r.arrived ||| 1#4 <<< host.val ≠ r.participants) :
    s.commitWalk c r host accumulator t = s.putRound c (walkedRound r host accumulator t) :=
  if_neg more

/-- Settles O34: the report is committed, and the cell stays in COLLECTING. -/
theorem doneReportCommitsTheWalk : Obligations.DoneReportCommitsTheWalk := by
  intro s c m rest r acc t report done round collecting more
  refine (takeReport_collecting report round collecting).trans ?_
  rw [done]
  show Host.Outcome.next (State.commitWalk _ c r m.host acc t).settle = _
  rw [commitWalk_more _ c acc t more]
  rfl

/-! ### Deadline ticks -/

theorem deadlineRuns_iff : deadlineRuns r = true ↔ r.timeout ≠ 0 ∧ (r.phase = .collecting ∨ r.phase = .absorbing) := by
  simp only [deadlineRuns, Bool.and_eq_true, Bool.or_eq_true, decide_eq_true_eq]

theorem cellTick_stopped (stopped : ∀ r, s.cells[c].round = some r → deadlineRuns r = false) : s.cellTick c = s := by
  unfold State.cellTick
  split
  · rfl
  next r round =>
    have hstopped := stopped r round
    rw [if_neg (by simp [expiring, hstopped]), if_neg (by simp [hstopped])]

theorem cellTick_counts (round : s.cells[c].round = some r) (runs : deadlineRuns r = true) (left : 2 ≤ r.deadline) :
    s.cellTick c = s.putRound c { r with deadline := r.deadline - 1 } := by
  unfold State.cellTick
  rw [round]
  dsimp only
  rw [if_neg (by simp [expiring]; omega), if_pos runs]

theorem expiring_of (runs : deadlineRuns r = true) (last : r.deadline ≤ 1) : expiring r = true := by
  simp [expiring, runs, last]

theorem cellTick_expires (round : s.cells[c].round = some r) (runs : deadlineRuns r = true) (last : r.deadline ≤ 1) :
    s.cellTick c = s.earlyEnd c r .expired := by
  unfold State.cellTick
  rw [round]
  dsimp only
  rw [if_pos (expiring_of runs last)]

/-- Settles O39: the three cases of a cell's tick, the last the early end of its phase. -/
theorem deadlineTickCountsDownAndExpires : Obligations.DeadlineTickCountsDownAndExpires := by
  intro s c issued cell ticks running
  have hissued : s.deadlineTicks[c] ≠ 0 := by omega
  have htick : exec (.deadlineTimerTick c) s = .next ((s.useDeadlineTick c).cellTick c).settle := by
    show execDeadlineTimerTick c s = _
    rw [execDeadlineTimerTick, if_neg hissued, completed]
  refine ⟨fun stopped => ?_, fun r round runs => ?_⟩
  · rw [htick, cellTick_stopped fun r round => ?_]
    · rfl
    · rw [← Bool.not_eq_true]
      exact fun hruns => stopped r round (deadlineRuns_iff.1 hruns)
  have hruns : deadlineRuns r = true := deadlineRuns_iff.2 runs
  have hround : (s.useDeadlineTick c).cells[c].round = some r := round
  have hexpiry : r.deadline ≤ 1 →
      exec (.deadlineExpiry c) s = .next ((s.useDeadlineTick c).earlyEnd c r .expired).settle := by
    intro last
    have hexpires : cellExpires s.cells[c] = true := by
      rw [cellExpires, round]
      exact expiring_of hruns last
    show execDeadlineExpiry c s = _
    rw [execDeadlineExpiry, if_neg hissued, if_pos hexpires, cellTick_expires hround hruns last, completed]
  refine ⟨fun left => ?_, fun last => ?_, fun last collecting => ?_, fun last absorbing faulted => ?_⟩
  · rw [htick, cellTick_counts hround hruns left]
    rfl
  · rw [htick, hexpiry last, cellTick_expires hround hruns last]
  · refine ⟨(s.useDeadlineTick c).removeCell c, _, removeContributions_left (s.useDeadlineTick c) _, rfl,
      settlePending_spec { r with outcome := some .expired, deadline := 0 } .dropped, fun w walk => ?_, fun noWalk => ?_⟩
    · rw [hexpiry last, earlyEnd_drains c .expired collecting walk]
      rfl
    · exact ⟨_, hexpiry last, earlyEnd_closes c .expired collecting (by decide) noWalk⟩
  · exact ⟨_, hexpiry last, earlyEnd_absorbing c .expired absorbing faulted⟩

end Sys2Proof.Machine
end

section
/-! Proofs about removals, the dispatch, cancels and cuts, and about the events that are not there to be taken. -/

namespace Sys2Proof.Machine

open Sys2Proof.Safety

variable {s t : State} {h : HostId} {c : CellId} {w : UnitId} {k : PlaceId}

/-! ### Removals (R98) -/

/-- Settles O41: the host's entries leave, and its count, which was theirs, falls to 0. -/
theorem removalTakesOutTheHostsEntries : Obligations.RemovalTakesOutTheHostsEntries := by
  intro s h sent counted
  let taken : State := s.putPort h { s.ports[h] with removals := s.ports[h].removals - 1 }.returnAck
  let left : State := taken.removeContributions fun e => decide (e.host = h)
  obtain ⟨hlist, hcounts, hstrides⟩ := removeContributions_left taken fun e => decide (e.host = h)
  refine ⟨{ left with hostCounts := left.hostCounts.set h 0 }, ?_, ⟨hlist, fun g => ?_, hstrides⟩, set_same _ _ _, rfl⟩
  · show execRemoval h s = _
    rw [execRemoval, if_neg (by omega)]
    rfl
  · show (left.hostCounts.set h 0)[g] = _
    by_cases hg : h = g
    · subst hg
      rw [set_same, counted]
      simp
    · rw [set_other _ _ _ _ hg]
      exact hcounts g

/-! ### The dispatch (R99, R100) -/

theorem find?_eligible {front back : List Contribution} {e : Contribution} {r : Round}
    (list : s.contributions = front ++ e :: back)
    (busy : ∀ x ∈ front, ∀ q, s.cells[x.cell].round = some q → q.walkInFlight ≠ none)
    (round : s.cells[e.cell].round = some r) (noWalk : r.walkInFlight = none) :
    s.contributions.find? (eligible s) = some e ∧ s.contributions.eraseP (eligible s) = front ++ back := by
  have hfront : ∀ x ∈ front, ¬eligible s x = true := fun x hx hel => by
    obtain ⟨q, hq, hwalk⟩ := (eligible_iff s x).1 hel
    exact busy x hx q hq hwalk
  have he : eligible s e = true := (eligible_iff s e).2 ⟨r, round, noWalk⟩
  rw [list, List.find?_append, List.find?_eq_none.2 hfront, List.eraseP_append_right _ hfront,
    List.eraseP_cons_of_pos he]
  exact ⟨by simp [he], rfl⟩

theorem find?_unitFree (idle : s.units[w].mode = .idle) (least : ∀ v : UnitId, v < w → s.units[v].mode ≠ .idle) :
    unitOrder.find? (unitFree s) = some w :=
  find?_lowest ((unitFree_iff s w).2 idle) fun v hv => by
    rw [← Bool.not_eq_true]
    exact fun free => least v hv ((unitFree_iff s v).1 free)

/-- Settles O43: the dispatch of the first eligible entry to the lowest-numbered free unit may be made first. -/
theorem dispatchPairsTheFirstEligibleEntry : Obligations.DispatchPairsTheFirstEligibleEntry := by
  refine ⟨fun s => rfl, fun s hd hg => settle_settled hd hg, fun s front back e r w list busy round noWalk idle least hg => ?_⟩
  obtain ⟨hfound, hleft⟩ := find?_eligible list busy round noWalk
  have hdispatch : s.makeDispatch = s.dispatchTo e r w := by
    simp only [State.makeDispatch, hfound, find?_unitFree idle least, round]
  rw [← settle_makeDispatch hg, hdispatch, State.dispatchTo, hleft]
  rfl

/-! ### Cancels and cuts (R112, R113) -/

theorem cutWalk_spec (s : State) (w : UnitId) (walk : Walk) :
    walkEnded s (s.cutWalk w walk) w walk s.units[w].window .cut
      ∧ s.cutWalk w walk =
        { s with
          units := (s.cutWalk w walk).units, strides := (s.cutWalk w walk).strides
          holdOwner := (s.cutWalk w walk).holdOwner, grant := (s.cutWalk w walk).grant
          walkReports := (s.cutWalk w walk).walkReports } :=
  ⟨endWalk_spec s w walk _ _, endWalk_frame s w walk _ _⟩

theorem takeCancel_held {round : RoundNumber} {walk : Walk} (walking : s.units[w].mode = .walking walk)
    (cell : walk.contribution.cell = c) (number : walk.contribution.round = round) :
    s.takeCancel w c round = s.cutWalk w walk := by
  simp only [State.takeCancel, walking, cell, number, and_self, if_true]

theorem takeCancel_ignored {round : RoundNumber}
    (other : ∀ walk, s.units[w].mode = .walking walk →
      ¬(walk.contribution.cell = c ∧ walk.contribution.round = round)) : s.takeCancel w c round = s := by
  unfold State.takeCancel
  split
  next walk walking => exact if_neg (other walk walking)
  · rfl
  · rfl

theorem takeCut_held {walk : Walk} (walking : s.units[w].mode = .walking walk) (host : walk.contribution.host = h) :
    s.takeCut w h = s.cutWalk w walk := by
  simp only [State.takeCut, walking, host, if_true]

theorem takeCut_ignored (other : ∀ walk, s.units[w].mode = .walking walk → walk.contribution.host ≠ h) :
    s.takeCut w h = s := by
  unfold State.takeCut
  split
  next walk walking => exact if_neg (other walk walking)
  · rfl
  · rfl

/-- Settles O42: the unit that holds the contribution ends its walk with CUT, and any other ignores the message. -/
theorem cancelAndCutEndTheWalkOrAreIgnored : Obligations.CancelAndCutEndTheWalkOrAreIgnored := by
  intro s w framed
  refine ⟨fun c round => ?_, fun h => ?_⟩
  · intro message taken sent
    have hexec : exec (.cancel w c round) s = .next (taken.takeCancel w c round).settle := by
      show execCancel w c round s = _
      rw [execCancel, if_pos sent, completed]
    refine ⟨fun walk walking cell number => ?_, fun other => ?_⟩
    · obtain ⟨hended, hframed⟩ := cutWalk_spec taken w walk
      rw [hexec, takeCancel_held (s := taken) walking cell number]
      exact ⟨_, rfl, hended, hframed⟩
    · rw [hexec, takeCancel_ignored (s := taken) other]
  · intro p taken sent
    have hexec : exec (.cut w h) s = .next (taken.takeCut w h).settle := by
      show execCut w h s = _
      rw [execCut, if_neg (Nat.one_le_iff_ne_zero.1 sent)]
      rfl
    refine ⟨fun walk walking host => ?_, fun other => ?_⟩
    · obtain ⟨hended, hframed⟩ := cutWalk_spec taken w walk
      rw [hexec, takeCut_held (s := taken) walking host]
      exact ⟨_, rfl, hended, hframed⟩
    · rw [hexec, takeCut_ignored (s := taken) other]

/-! ### Events that are not there (log 6) -/

/-- A bus that holds a write carries no access. -/
theorem hostAccess_held {words : List Word} {stage : DeliveryStage}
    (delivering : s.ports[h].framing = .delivering words stage) (after : State) :
    hostAccess s h after = .refused .busHeld := by
  have hheld : busHeld s.ports[h] = true := by rw [busHeld, delivering]
  rw [hostAccess, if_pos hheld]

theorem handedCommand_none {code : Nat} (none : ∀ words, ¬handedOver s h code words) :
    handedCommand s h code = Option.none := by
  unfold handedCommand
  split
  next words delivering =>
    refine if_neg fun hcode => none words ⟨delivering, ?_⟩
    rw [← hcode, commandCode_div]
  · rfl

theorem ownerTakes_none {code : Nat} (none : ∀ words, ¬handedOver s h code words) (act : List Word → State) :
    ownerTakes s h code act = .refused .notHandedOver := by
  rw [ownerTakes, handedCommand_none none]

theorem takeReport_none {kind : ReportKind → Bool} (none : ∀ m ∈ s.walkReports, m.cell = c → kind m.kind = false) :
    takeReport s c kind = .refused .noReport := by
  have hfind : s.walkReports.find? (reportFor c kind) = Option.none := List.find?_eq_none.2 fun m hm hfor => by
    obtain ⟨hcell, hkind⟩ : m.cell = c ∧ kind m.kind = true := by simpa [reportFor] using hfor
    rw [none m hm hcell] at hkind
    cases hkind
  rw [takeReport, hfind]

theorem execDeadlineExpiry_running (more : ∀ r, s.cells[c].round = some r →
      r.timeout = 0 ∨ (r.phase ≠ .collecting ∧ r.phase ≠ .absorbing) ∨ 2 ≤ r.deadline) :
    execDeadlineExpiry c s = .refused .noTick := by
  have hexpires : ¬cellExpires s.cells[c] = true := by
    unfold cellExpires
    split
    · exact Bool.false_ne_true
    next r round =>
      simp only [expiring, Bool.and_eq_true, deadlineRuns_iff, decide_eq_true_eq]
      rintro ⟨⟨htimeout, hphase⟩, hlast⟩
      rcases more r round with hzero | ⟨hcollecting, habsorbing⟩ | hleft
      · exact htimeout hzero
      · exact hphase.elim hcollecting habsorbing
      · omega
  rw [execDeadlineExpiry, if_neg hexpires]
  split <;> rfl

theorem execWriteGrantTaken_none (none : ∀ g, s.grant = some g → g.requester ≠ .publisher) :
    execWriteGrantTaken s = .refused .noGrant := by
  unfold execWriteGrantTaken
  split
  · rfl
  next g granted => exact if_neg (none g granted)

theorem execReadGrantTaken_none (none : ∀ g, s.grant = some g → g.requester ≠ .walkUnit w) :
    execReadGrantTaken w s = .refused .noGrant := by
  unfold execReadGrantTaken
  split
  · rfl
  next g granted => exact if_neg (none g granted)

/-- Settles O4: each row's own condition, and the refusal that names it. -/
theorem eventsNotThereAreRefused : Obligations.EventsNotThereAreRefused := by
  intro s h c w k t
  refine ⟨fun words stage delivering v location i row => ?_, fun i code row none => ?_, fun none => ?_, fun line => ?_,
    fun line => ?_, fun held => ⟨?_, ?_⟩, fun runs straps => ?_, fun none => if_pos none, fun none => if_pos none,
    fun none => if_pos none, fun none => if_pos none, fun round none => if_neg none, takeReport_none, takeReport_none,
    takeReport_none, fun none => ?_, execReadGrantTaken_none, execWriteGrantTaken_none, fun none => ?_, fun none => ?_,
    fun none => ⟨if_pos none, if_pos none⟩, execDeadlineExpiry_running, fun more => ?_,
    fun none => ⟨if_pos none, if_pos none⟩⟩
  · have hheld := fun after => hostAccess_held delivering after
    simp only [List.mem_cons, List.not_mem_nil, or_false] at row
    rcases row with rfl | rfl | rfl | rfl | rfl | rfl | rfl | rfl | rfl <;> exact hheld _
  · have hnone := fun act => ownerTakes_none none act
    simp only [List.mem_cons, Prod.mk.injEq, List.not_mem_nil, or_false] at row
    rcases row with ⟨rfl, rfl⟩ | ⟨rfl, rfl⟩ | ⟨rfl, rfl⟩ | ⟨rfl, rfl⟩ | ⟨rfl, rfl⟩ | ⟨rfl, rfl⟩ | ⟨rfl, rfl⟩ | ⟨rfl, rfl⟩ <;>
      exact hnone _
  · show execCommandDecision h s = _
    unfold execCommandDecision
    split
    next words code value decided => exact absurd decided (none words code value)
    · rfl
  · exact if_pos line
  · exact if_neg (Bool.eq_false_iff.1 line)
  · exact if_pos held
  · exact if_pos held
  · exact if_neg (Bool.eq_false_iff.1 runs)
  · show execPublicationDone c s = _
    have hfind : s.publicationReports.find? (publicationFor c) = Option.none :=
      List.find?_eq_none.2 fun m hm => by simpa [publicationFor] using none m hm
    rw [execPublicationDone, hfind]
  · show execWalkUnitAnswer w k s = _
    rw [execWalkUnitAnswer, none]
  · show execPublisherAnswer s = _
    rw [execPublisherAnswer, none]
  · have hexpires : ¬(s.slots[t].outstanding = true ∧ s.slots[t].timer ≤ 1) := by
      rintro ⟨outstanding, last⟩
      rcases more with stopped | more
      · cases outstanding.symm.trans stopped
      · omega
    show execResponseTimeout t s = _
    rw [execResponseTimeout, if_neg hexpires]
    split <;> rfl

end Sys2Proof.Machine
end

section
/-! Proofs about the treatment of answers in walk order. -/

namespace Sys2Proof.Machine

open Sys2Proof.Safety

variable {s t : State} {w : UnitId} {k : PlaceId} {walk : Walk} {window : Vector (Option Place) 4}

/-! ### The order of a window (R105) -/

/-- The places in use of a window are those of the list, in walk order. -/
structure InWalkOrder (window : Vector (Option Place) 4) (places : List PlaceId) : Prop where
  inUse : ∀ j : PlaceId, window[j] ≠ none ↔ j ∈ places
  rising : places.Pairwise fun i j => ∀ p q, window[i] = some p → window[j] = some q → p.index < q.index

theorem InWalkOrder.head_not_mem {j : PlaceId} {places : List PlaceId} (h : InWalkOrder window (j :: places)) :
    j ∉ places := fun again => by
  obtain ⟨p, hp⟩ := Option.ne_none_iff_exists'.1 ((h.inUse j).2 List.mem_cons_self)
  exact lt_irrefl _ ((List.pairwise_cons.1 h.rising).1 j again p p hp hp)

theorem InWalkOrder.headPlace {j : PlaceId} {p : Place} {places : List PlaceId} (h : InWalkOrder window (j :: places))
    (place : window[j] = some p) : headPlace window = some (j, p) := by
  refine headPlace_eq place fun i q hi hq => ?_
  have hmem : i ∈ j :: places := (h.inUse i).1 (by simp [hq])
  exact (List.pairwise_cons.1 h.rising).1 i ((List.mem_cons.1 hmem).resolve_left hi) p q place hq

theorem InWalkOrder.tail {j : PlaceId} {places : List PlaceId} (h : InWalkOrder window (j :: places)) :
    InWalkOrder (window.set j none) places := by
  have hset : ∀ (i : PlaceId) (p : Place), (window.set j none)[i] = some p → window[i] = some p := fun i p hp => by
    by_cases hi : j = i
    · subst hi
      rw [set_same] at hp
      cases hp
    · rwa [set_other _ _ _ _ hi] at hp
  have hrising := (List.pairwise_cons.1 h.rising).2
  refine ⟨fun i => ?_, hrising.imp fun hless p q hp hq => hless p q (hset _ p hp) (hset _ q hq)⟩
  by_cases hi : j = i
  · subst hi
    simp only [set_same, ne_eq, not_true, false_iff]
    exact h.head_not_mem
  · rw [set_other _ _ _ _ hi, h.inUse i]
    simp [Ne.symm hi]

/-- The window with the listed places emptied. -/
def emptied (window : Vector (Option Place) 4) (places : List PlaceId) : Vector (Option Place) 4 :=
  places.foldl (fun left (j : PlaceId) => left.set j none) window

theorem emptied_get (window : Vector (Option Place) 4) (places : List PlaceId) (i : PlaceId) :
    (emptied window places)[i] = if i ∈ places then none else window[i] := by
  induction places generalizing window with
  | nil => rfl
  | cons j places ih =>
    show (emptied (window.set j none) places)[i] = _
    rw [ih]
    by_cases hi : j = i
    · subst hi
      simp
    · rw [set_other _ _ _ _ hi]
      simp [Ne.symm hi]

/-! ### Treatment in walk order (R105, R106) -/

/-- What a treatment is told of a place: its element, and the answer the window holds for it. -/
def tells (window : Vector (Option Place) 4) (j : PlaceId) (told : Option (Place × Answer)) : Prop :=
  ∃ p q x, window[j] = some p ∧ p.answer = some x ∧ told = some (q, x)
    ∧ q.index = p.index ∧ q.address = p.address ∧ q.size = p.size

/-- The run of treatments that ends as the treatment in order does. -/
def endsAs (run : TreatEnd) (left : Vector (Option Place) 4) :
    Except (ExceptionKind × Place) (Option Int × Tallies) → Prop
  | .ok (working, tallies) => run = .goesOn working tallies left
  | .error (kind, p) => ∃ window, run = .faulted kind p.index p.address window

/-- The elements answered at the head of the walk order are the ones treated, in that order. -/
theorem treatElements_inOrder {ready rest : List PlaceId} (told : PlaceId → Option (Place × Answer)) (fuel : Nat)
    (working : Option Int) (tallies : Tallies) (enough : placesUsed window ≤ fuel)
    (order : InWalkOrder window (ready ++ rest)) (answered : ∀ j ∈ ready, tells window j (told j))
    (waits : ∀ j p, rest.head? = some j → window[j] = some p → p.answer = none) :
    endsAs (treatElements walk fuel working tallies window) (emptied window ready)
      (treatInOrder walk working tallies (ready.filterMap told)) := by
  induction ready generalizing fuel working tallies window with
  | nil =>
    show treatElements walk fuel working tallies window = .goesOn working tallies window
    cases fuel with
    | zero => rfl
    | succ fuel =>
      cases rest with
      | nil =>
        have hnone : headPlace window = none := headPlace_none fun j => by
          simpa using (order.inUse j).not.2 List.not_mem_nil
        simp only [treatElements, hnone]
      | cons i rest =>
        obtain ⟨p, hp⟩ := Option.ne_none_iff_exists'.1 ((order.inUse i).2 List.mem_cons_self)
        simp only [treatElements, InWalkOrder.headPlace order hp, waits i p rfl hp]
  | cons j ready ih =>
    obtain ⟨p, q, x, hp, hx, htold, hindex, haddress, hsize⟩ := answered j List.mem_cons_self
    have hused := placesUsed_set_none hp
    obtain ⟨fuel, rfl⟩ : ∃ n, fuel = n + 1 := ⟨fuel - 1, by omega⟩
    have hkept : ∀ i ∈ ready ++ rest, (window.set j none)[i] = window[i] := fun i hi =>
      set_other _ _ _ _ fun hji => order.head_not_mem (hji ▸ hi)
    have hnext := fun working tallies => ih (window := window.set j none) fuel working tallies (by omega) order.tail
      (fun i hi => by
        rw [tells, hkept i (List.mem_append_left _ hi)]
        exact answered i (List.mem_cons_of_mem _ hi))
      (fun i p hi hp => by
        rw [hkept i (List.mem_append_right _ (List.mem_of_head? hi))] at hp
        exact waits i p hi hp)
    rw [List.filterMap_cons_some htold]
    simp only [treatElements, InWalkOrder.headPlace order hp, hx, treatInOrder, haddress, hsize]
    cases treatAnswer walk.settings walk.contribution.descriptor.format walk.contribution.prescale working tallies
        p.address p.size x with
    | raised kind => exact ⟨_, by rw [hindex, haddress]⟩
    | recorded working' tallies' => exact hnext working' tallies'

/-! ### The window that records an answer -/

/-- The window in which place `k`, of element `place`, holds its answer. -/
def answeredWindow (window : Vector (Option Place) 4) (k : PlaceId) (place : Place) (a : Answer) :
    Vector (Option Place) 4 :=
  window.set k (some { place with answer := some a })

/-- The answer a place holds when place `k` has taken `a`. -/
def answerTaken (window : Vector (Option Place) 4) (k : PlaceId) (a : Answer) (j : PlaceId) : Option Answer :=
  if j = k then some a else window[j].bind (·.answer)

/-- The element index of a place. -/
def placeIndex (window : Vector (Option Place) 4) (j : PlaceId) : Nat :=
  (window[j].map (·.index)).getD 0

/-- The element of a place in use and the answer taken for it. -/
def placeTold (window : Vector (Option Place) 4) (k : PlaceId) (a : Answer) (j : PlaceId) : Option (Place × Answer) :=
  window[j].bind fun p => (answerTaken window k a j).map fun x => (p, x)

section Answered

variable {place : Place} {a : Answer} (inUse : window[k] = some place)
include inUse

theorem answeredWindow_get (j : PlaceId) :
    (answeredWindow window k place a)[j] =
      window[j].map fun p => { p with answer := answerTaken window k a j } := by
  unfold answeredWindow
  by_cases hj : k = j
  · subst hj
    rw [set_same, inUse]
    simp [answerTaken]
  · rw [set_other _ _ _ _ hj]
    cases hp : window[j] with
    | none => rfl
    | some p => simp [answerTaken, Ne.symm hj, hp]

theorem answeredWindow_inWalkOrder {places : List PlaceId} (used : ∀ j : PlaceId, window[j] ≠ none ↔ j ∈ places)
    (rising : places.Pairwise fun i j => placeIndex window i < placeIndex window j) :
    InWalkOrder (answeredWindow window k place a) places := by
  have hindex : ∀ (j : PlaceId) (p : Place), (answeredWindow window k place a)[j] = some p →
      p.index = placeIndex window j := fun j p hp => by
    rw [answeredWindow_get inUse] at hp
    obtain ⟨q, hq, rfl⟩ := Option.map_eq_some_iff.1 hp
    rw [placeIndex, hq]
    rfl
  refine ⟨fun j => ?_, rising.imp fun hless p q hp hq => ?_⟩
  · rw [answeredWindow_get inUse, ← used j, ne_eq, Option.map_eq_none_iff]
  · rwa [hindex _ p hp, hindex _ q hq]

theorem answeredWindow_tells {j : PlaceId} (used : window[j] ≠ none) (answered : answerTaken window k a j ≠ none) :
    tells (answeredWindow window k place a) j (placeTold window k a j) := by
  obtain ⟨q, hq⟩ := Option.ne_none_iff_exists'.1 used
  obtain ⟨x, hx⟩ := Option.ne_none_iff_exists'.1 answered
  refine ⟨{ q with answer := some x }, q, x, ?_, rfl, ?_, rfl, rfl, rfl⟩
  · rw [answeredWindow_get inUse, hq, hx]
    rfl
  · rw [placeTold, hq, hx]
    rfl

/-- The treatments that the answer for place `k` sets off are those of the answered places at the head. -/
theorem treatElements_answered {ready rest : List PlaceId} (working : Option Int) (tallies : Tallies)
    (used : ∀ j : PlaceId, window[j] ≠ none ↔ j ∈ ready ++ rest)
    (rising : (ready ++ rest).Pairwise fun i j => placeIndex window i < placeIndex window j)
    (answered : ∀ j ∈ ready, answerTaken window k a j ≠ none)
    (waits : ∀ j, rest.head? = some j → answerTaken window k a j = none) :
    endsAs (treatElements walk 4 working tallies (answeredWindow window k place a))
      (emptied (answeredWindow window k place a) ready)
      (treatInOrder walk working tallies (ready.filterMap (placeTold window k a))) := by
  refine treatElements_inOrder _ 4 working tallies (placesUsed_le _) (answeredWindow_inWalkOrder inUse used rising)
    (fun j hj => answeredWindow_tells inUse ((used j).2 (List.mem_append_left _ hj)) (answered j hj))
    fun j p hj hp => ?_
  rw [answeredWindow_get inUse, waits j hj] at hp
  obtain ⟨q, -, rfl⟩ := Option.map_eq_some_iff.1 hp
  rfl

end Answered

/-! ### The end of a walk in the midst of its answers -/

/-- A walk's end asks of a window only which places wait for their answers, and those as they stand. -/
theorem walkEnded_congr {window' : Vector (Option Place) 4} {kind : ReportKind}
    (same : ∀ j : PlaceId,
      window[j] = window'[j] ∨ placeOutstanding window[j] = false ∧ placeOutstanding window'[j] = false)
    (ended : walkEnded s t w walk window kind) : walkEnded s t w walk window' kind := by
  have hout : ∀ j : PlaceId, placeOutstanding window[j] = placeOutstanding window'[j] := fun j =>
    (same j).elim (fun heq => by rw [heq]) fun hboth => hboth.1.trans hboth.2.symm
  obtain ⟨hgenerator, hwindow, hmode, hrest⟩ := ended
  refine ⟨hgenerator, fun j => ?_, ?_, hrest⟩
  · rw [hwindow j, hout j]
    rcases same j with heq | ⟨-, hfalse⟩
    · rw [heq]
    · rw [hfalse]
      rfl
  · simp only [hmode, hout]

/-- The places that the treatments leave waiting are those that waited beside place `k`. -/
theorem treated_waits {place : Place} {a : Answer} (working : Option Int) (tallies : Tallies) {run : TreatEnd}
    (treated : treatElements walk 4 working tallies (answeredWindow window k place a) = run) (j : PlaceId) :
    run.window[j] = (window.set k none)[j]
      ∨ placeOutstanding run.window[j] = false ∧ placeOutstanding (window.set k none)[j] = false := by
  subst treated
  by_cases hj : k = j
  · subst hj
    refine .inr ⟨?_, by rw [set_same]; rfl⟩
    rw [treatElements_outstanding, answeredWindow, set_same]
    rfl
  · have hsame : (answeredWindow window k place a)[j] = (window.set k none)[j] := by
      rw [answeredWindow, set_other _ _ _ _ hj, set_other _ _ _ _ hj]
    rcases treatElements_place walk 4 working tallies (answeredWindow window k place a) j with hleft | ⟨hnone, hfalse⟩
    · exact .inl (hleft.trans hsame)
    · exact .inr ⟨by rw [hnone]; rfl, hsame ▸ hfalse⟩

theorem generatorExhausted_iff (unit : WalkUnit) :
    generatorExhausted unit = true ↔ ∀ g, unit.generator = some g → g.exhausted = true := by
  unfold generatorExhausted
  cases unit.generator <;> simp

/-- The window that the treatments leave is empty when no place in use is left. -/
theorem windowEmpty_emptied {ready rest : List PlaceId} (order : InWalkOrder window (ready ++ rest)) :
    windowEmpty (emptied window ready) = true ↔ rest = [] := by
  have hdisjoint : ∀ j ∈ rest, j ∉ ready := fun j hrest hready => by
    obtain ⟨p, hp⟩ := Option.ne_none_iff_exists'.1 ((order.inUse j).2 (List.mem_append_left _ hready))
    exact lt_irrefl _ ((List.pairwise_append.1 order.rising).2.2 j hready j hrest p p hp hp)
  rw [windowEmpty_iff, List.eq_nil_iff_forall_not_mem]
  simp only [emptied_get]
  refine forall_congr' fun j => ⟨fun hnone hrest => ?_, fun hrest => ?_⟩
  · rw [if_neg (hdisjoint j hrest)] at hnone
    exact (order.inUse j).2 (List.mem_append_right _ hrest) hnone
  · split
    · rfl
    next hready => simpa [hready, hrest] using (order.inUse j).not

/-! ### The answer's row -/

theorem exec_walkUnitAnswer {place : Place} {a : Answer} (answer : s.answers[placeSlot w k] = some a)
    (inUse : s.units[w].window[k] = some place) (busy : s.units[w].mode ≠ .idle) :
    exec (.walkUnitAnswer w k) s =
      .next (State.takeAnswer { s with answers := s.answers.set (placeSlot w k) none } w k place a).settle := by
  show execWalkUnitAnswer w k s = _
  rw [execWalkUnitAnswer, answer, inUse]
  split <;> simp_all [completed]

theorem takeAnswer_walking {place : Place} {a : Answer} (walking : s.units[w].mode = .walking walk) :
    s.takeAnswer w k place a = s.advanceWalk w walk (answeredWindow s.units[w].window k place a) := by
  simp only [State.takeAnswer, walking]
  rfl

theorem takeAnswer_stopping {place : Place} {a : Answer} (stopping : s.units[w].mode = .stopping) :
    s.takeAnswer w k place a = s.drainPlace w k := by
  simp only [State.takeAnswer, stopping]

theorem windowEmpty_set_none (window : Vector (Option Place) 4) (k : PlaceId) :
    windowEmpty (window.set k none) = true ↔ ∀ j : PlaceId, j ≠ k → window[j] = none := by
  rw [windowEmpty_iff]
  refine ⟨fun h j hj => ?_, fun h j => ?_⟩
  · rw [← set_other window k j none (Ne.symm hj)]
    exact h j
  · by_cases hj : k = j
    · subst hj
      exact set_same _ _ _
    · rw [set_other _ _ _ _ hj]
      exact h j (Ne.symm hj)

theorem drainPlace_eq (s : State) (w : UnitId) (k : PlaceId) :
    s.drainPlace w k =
      { s with
        units := s.units.set w
          { s.units[w] with
            mode := if ∀ j : PlaceId, j ≠ k → s.units[w].window[j] = none then .idle else .stopping
            window := s.units[w].window.set k none } } := by
  rw [State.drainPlace, ite_congr (propext (windowEmpty_set_none s.units[w].window k)) (fun _ => rfl) fun _ => rfl]
  rfl

theorem advanceWalk_faulted {kind : ExceptionKind} {index : Nat} {address : Addr}
    {window' : Vector (Option Place) 4}
    (treated :
      treatElements walk 4 s.units[w].working s.units[w].tallies window = .faulted kind index address window') :
    s.advanceWalk w walk window = s.endWalk w walk window' (.fault kind index address) := by
  simp only [State.advanceWalk, treated]

theorem advanceWalk_goesOn {working : Option Int} {tallies : Tallies} {window' : Vector (Option Place) 4}
    (treated : treatElements walk 4 s.units[w].working s.units[w].tallies window = .goesOn working tallies window') :
    s.advanceWalk w walk window =
      if windowEmpty window' && generatorExhausted s.units[w] then s.endWalk w walk window' (.done working tallies)
      else s.putUnit w { s.units[w] with window := window', working := working, tallies := tallies } := by
  simp only [State.advanceWalk, treated]

/-- Settles O49: a unit in STOPPING empties the place; a unit in WALKING treats what is answered at the head. -/
theorem answersAreTreatedInWalkOrder : Obligations.AnswersAreTreatedInWalkOrder := by
  intro s w k a place answer inUse unit taken framed
  refine ⟨fun stopping => ?_, ?_⟩
  · rw [exec_walkUnitAnswer answer inUse (by rw [stopping]; simp), takeAnswer_stopping (s := taken) stopping,
      drainPlace_eq]
  · intro walk ready rest walking answerAt indexAt used rising answered waits treated
    have hexec : exec (.walkUnitAnswer w k) s =
        .next (taken.advanceWalk w walk (answeredWindow unit.window k place a)).settle := by
      rw [exec_walkUnitAnswer answer inUse (by rw [walking]; simp), takeAnswer_walking (s := taken) walking]
    have hend : endsAs (treatElements walk 4 unit.working unit.tallies (answeredWindow unit.window k place a))
        (emptied (answeredWindow unit.window k place a) ready) treated :=
      treatElements_answered inUse unit.working unit.tallies used rising answered waits
    have hempty := windowEmpty_emptied (answeredWindow_inWalkOrder (a := a) inUse used rising)
    have hgenerator := generatorExhausted_iff unit
    refine ⟨fun kind p faulted => ?_, fun acc t' done => ⟨fun last exhausted => ?_, fun more => ?_⟩⟩
    · rw [faulted] at hend
      obtain ⟨window', hrun⟩ := hend
      refine ⟨_, hexec, ?_⟩
      rw [advanceWalk_faulted (s := taken) hrun]
      exact ⟨endWalk_frame taken w walk _ _, walkEnded_congr (treated_waits _ _ hrun) (endWalk_spec taken w walk _ _)⟩
    · rw [done] at hend
      refine ⟨_, hexec, ?_⟩
      rw [advanceWalk_goesOn (s := taken) hend, if_pos (by rw [hempty.2 last, hgenerator.2 exhausted]; rfl)]
      exact ⟨endWalk_frame taken w walk _ _, walkEnded_congr (treated_waits _ _ hend) (endWalk_spec taken w walk _ _)⟩
    · rw [done] at hend
      refine ⟨emptied (answeredWindow unit.window k place a) ready, fun j => ?_, ?_⟩
      · rw [emptied_get, answeredWindow]
        by_cases hj : k = j
        · subst hj
          rw [set_same, if_pos rfl]
        · rw [set_other _ _ _ _ hj, if_neg (Ne.symm hj)]
      · rw [hexec, advanceWalk_goesOn (s := taken) hend, if_neg]
        · rfl
        · rw [Bool.and_eq_true, hempty, hgenerator]
          exact more

end Sys2Proof.Machine
end

section
/-! Proofs about the loss of a host. -/

namespace Sys2Proof.Machine

open Sys2Proof.Safety

variable {s t : State} {h : HostId} {c d : CellId} {r q : Round} {w : UnitId}

/-! ### What a loss does to a cell's record (R63) -/

/-- The round of which a lost host no longer is a member, final once its opener is lost. -/
def withdrawnRound (h : HostId) (r : Round) : Round :=
  { r with
    contributionNotices := r.contributionNotices &&& ~~~(1#4 <<< h.val)
    waitNotices := r.waitNotices &&& ~~~(1#4 <<< h.val)
    final := r.final || (decide (r.opener = h) && decide (r.phase ≠ .held)) }

theorem loseHost_none {cell : Cell} (round : cell.round = none) : (loseHost h cell).round = none := by
  rw [loseHost, round]
  exact round

theorem loseHost_some {cell : Cell} (round : cell.round = some r) :
    (loseHost h cell).round = if r.phase = .held ∧ r.opener = h then none else some (withdrawnRound h r) := by
  rw [loseHost, round]
  dsimp only
  split <;> rfl

/-- The loss of `h` ends the round: one in COLLECTING or ABSORBING that `h` opened, or that waits on it (R64). -/
def endsRound (h : HostId) (cell : Cell) : Prop :=
  ∃ r, cell.round = some r ∧ (r.phase = .collecting ∨ r.phase = .absorbing)
    ∧ (r.opener = h ∨ member r.participants h = true ∧ member r.arrived h = false)

theorem lossEnds_iff (h : HostId) (cell : Cell) : lossEnds h cell = true ↔ endsRound h cell := by
  unfold lossEnds endsRound
  cases cell.round <;> simp

theorem loseHost_ends {cell : Cell} (ends : endsRound h cell) (round : cell.round = some r) :
    loseHost h cell = { number := cell.number, round := some (withdrawnRound h r) } := by
  obtain ⟨q, hq, hphase, -⟩ := ends
  obtain rfl : r = q := Option.some.inj (round.symm.trans hq)
  have hround : (loseHost h cell).round = some (withdrawnRound h r) := by
    rw [loseHost_some round, if_neg]
    rintro ⟨hheld, -⟩
    rw [hheld] at hphase
    rcases hphase with hphase | hphase <;> cases hphase
  rw [← loseHost_number h cell, ← hround]

/-! ### The cell of an early end (R48) -/

theorem handedOn_cell (handed : handedOn s t c r) : t.cells[c] = cellHandedOn s.cells[c].number r := by
  rw [cellHandedOn]
  by_cases hdestination : r.destination = none
  · rw [if_pos hdestination, (handed.2 hdestination).1]
    exact set_same _ _ _
  · rw [if_neg hdestination, (handed.1 hdestination).1]
    exact set_same _ _ _

theorem earlyEnd_other (cause : RoundOutcome) (other : d ≠ c) : (s.earlyEnd c r cause).cells[d] = s.cells[d] := by
  obtain ⟨cell, hframe⟩ := earlyEnd_frame s c r cause
  rw [hframe]
  exact set_other _ _ _ _ (Ne.symm other)

theorem handOn_cancels (s : State) (c : CellId) (r : Round) : (s.handOn c r).cancels = s.cancels := by
  rw [handOn_frame]

theorem drainOrClose_cancels (s : State) (c : CellId) (r : Round) : s.cancels ⊆ (s.drainOrClose c r).cancels := by
  cases walk : r.walkInFlight with
  | some w =>
    rw [drainOrClose_drains c walk]
    exact List.subset_append_left _ _
  | none =>
    rw [drainOrClose_closes c walk, State.closeEarly, handOn_cancels]
    exact List.Subset.refl _

theorem earlyEnd_cancels (s : State) (c : CellId) (r : Round) (cause : RoundOutcome) :
    s.cancels ⊆ (s.earlyEnd c r cause).cancels := by
  unfold State.earlyEnd
  split
  · exact drainOrClose_cancels (s.removeCell c) c _
  · rw [State.closeEarly, handOn_cancels]
    exact List.Subset.refl _

/-! ### One cell's turn, and all of them (R62, R64) -/

theorem loseRound_active (round : s.cells[c].round = some r) (active : r.phase = .collecting ∨ r.phase = .absorbing) :
    s.loseRound c = s.earlyEnd c r .lost := by
  rw [State.loseRound, round]
  exact if_pos active

theorem loseRound_other (s : State) (other : d ≠ c) : (s.loseRound c).cells[d] = s.cells[d] := by
  unfold State.loseRound
  split
  · rfl
  · split
    · exact earlyEnd_other .lost other
    · rfl

theorem loseRound_cancels (s : State) (c : CellId) : s.cancels ⊆ (s.loseRound c).cancels := by
  unfold State.loseRound
  split
  · exact List.Subset.refl _
  · split
    · exact earlyEnd_cancels s c _ .lost
    · exact List.Subset.refl _

theorem loseRounds_cancels (cells : List CellId) (s : State) : s.cancels ⊆ (cells.foldl State.loseRound s).cancels := by
  induction cells generalizing s with
  | nil => exact List.Subset.refl _
  | cons c rest ih => exact List.Subset.trans (loseRound_cancels s c) (ih _)

/-- Each cell has its turn on a state in which its record is untouched, and what the turn leaves of it stays. -/
theorem loseRounds_turn {cells : List CellId} (distinct : cells.Nodup) (s : State) (listed : c ∈ cells) :
    ∃ u : State, u.cells[c] = s.cells[c] ∧ (cells.foldl State.loseRound s).cells[c] = (u.loseRound c).cells[c]
      ∧ (u.loseRound c).cancels ⊆ (cells.foldl State.loseRound s).cancels := by
  induction cells generalizing s with
  | nil => cases listed
  | cons d rest ih =>
    obtain ⟨hd, hrest⟩ := List.nodup_cons.1 distinct
    by_cases hc : c = d
    · subst hc
      exact ⟨s, rfl, (loseRounds_numbersStep rest hrest _).2 c hd, loseRounds_cancels rest _⟩
    · obtain ⟨u, hcell, hturn⟩ := ih hrest (s.loseRound d) ((List.mem_cons.1 listed).resolve_left hc)
      exact ⟨u, hcell.trans (loseRound_other s hc), hturn⟩

/-- The state in which the loss of `h` has been acknowledged and its memberships are gone. -/
def lossNoticed (s : State) (h : HostId) : State :=
  { s with
    cells := s.cells.map (loseHost h)
    ports := s.ports.set h
      { s.ports[h] with lossNotices := s.ports[h].lossNotices - 1, acksReturned := s.ports[h].acksReturned + 1 }
    lossCount := s.lossCount + 1 }

theorem lossNoticed_cell (s : State) (h : HostId) (c : CellId) :
    (lossNoticed s h).cells[c] = loseHost h s.cells[c] := by
  simp [lossNoticed]

theorem exec_lossNotice (sent : 1 ≤ s.ports[h].lossNotices) :
    exec (.lossNotice h) s = .next ((lossCells s h).foldl State.loseRound (lossNoticed s h)).settle := by
  show execLossNotice h s = _
  rw [execLossNotice, if_neg (by omega), completed]
  rfl

theorem mem_lossCells : c ∈ lossCells s h ↔ endsRound h s.cells[c] :=
  ((lossCells_spec s h).1 c).trans (lossEnds_iff h _)

theorem lossCells_none (none : ∀ c : CellId, ¬endsRound h s.cells[c]) : lossCells s h = [] :=
  List.eq_nil_iff_forall_not_mem.2 fun c hc => none c (mem_lossCells.1 hc)

theorem lossCells_one (ends : endsRound h s.cells[c]) (only : ∀ d : CellId, d ≠ c → ¬endsRound h s.cells[d]) :
    lossCells s h = [c] := by
  have hperm := List.perm_ext_iff_of_nodup (lossCells_spec s h).2 (List.nodup_singleton c)
  refine List.perm_singleton.1 (hperm.2 fun d => ?_)
  rw [mem_lossCells, List.mem_singleton]
  refine ⟨fun hd => ?_, fun hd => hd ▸ ends⟩
  by_contra hne
  exact only d hne hd

/-- The cell and the cancel of an early end with LOST, in the three cases of R48. -/
theorem loseRound_cell {number : RoundNumber} (cell : s.cells[c] = { number := number, round := some r })
    (active : r.phase = .collecting ∨ r.phase = .absorbing) :
    let ended := ({ r with outcome := some .lost, deadline := 0 } : Round).settlePending .dropped
    (r.phase = .collecting → ∀ w, r.walkInFlight = some w →
        (s.loseRound c).cells[c] = { number := number, round := some { ended with phase := .draining } }
          ∧ { unit := w, cell := c, round := number } ∈ (s.loseRound c).cancels)
      ∧ (r.phase = .collecting → r.walkInFlight = none →
        (s.loseRound c).cells[c] = cellHandedOn number (closedEarly ended))
      ∧ (r.phase = .absorbing → r.outcome = some .faulted →
        (s.loseRound c).cells[c] = cellHandedOn number (closedEarly r)) := by
  intro ended
  have hnumber : s.cells[c].number = number := congrArg Cell.number cell
  rw [loseRound_active (congrArg Cell.round cell) active]
  refine ⟨fun collecting w walk => ?_, fun collecting noWalk => ?_, fun absorbing faulted => ?_⟩
  · rw [earlyEnd_drains c .lost collecting walk, hnumber]
    exact ⟨set_same _ _ _, List.mem_append_right _ (List.mem_singleton_self _)⟩
  · rw [handedOn_cell (earlyEnd_closes c .lost collecting (by decide) noWalk)]
    exact congrArg (cellHandedOn · (closedEarly ended)) hnumber
  · rw [handedOn_cell (earlyEnd_absorbing c .lost absorbing faulted), hnumber]

/-- Settles O40: the memberships go on every cell, then each ending round has its turn. -/
theorem lossNoticeWithdrawsAndEndsRounds : Obligations.LossNoticeWithdrawsAndEndsRounds := by
  intro s h sent acknowledged ends withdrawn lost noticed removed settled
  have hlost : ∀ c : CellId, lost s.cells[c] (loseHost h s.cells[c]) := fun c =>
    ⟨loseHost_number h _, loseHost_none, fun r round => loseHost_some round⟩
  have hnoticed : noticed (lossNoticed s h) := ⟨fun c => lossNoticed_cell s h c ▸ hlost c, rfl⟩
  have hsettled : ∀ r : Round, settled r
      (({ withdrawnRound h r with outcome := some .lost, deadline := 0 } : Round).settlePending .dropped) := fun r =>
    settlePending_spec ({ withdrawnRound h r with outcome := some .lost, deadline := 0 } : Round) .dropped
  have hexec := exec_lossNotice sent
  refine ⟨fun none => ?_, fun c r round hends only => ?_, _, hexec, fun c => ⟨fun stays => ?_, fun r round hends => ?_⟩⟩
  · refine ⟨_, hnoticed, ?_⟩
    rw [hexec, lossCells_none none]
    rfl
  · have hcell : (lossNoticed s h).cells[c] = { number := s.cells[c].number, round := some (withdrawnRound h r) } :=
      (lossNoticed_cell s h c).trans (loseHost_ends hends round)
    have hactive : r.phase = .collecting ∨ r.phase = .absorbing := by
      obtain ⟨q, hq, hphase, -⟩ := hends
      rwa [Option.some.inj (round.symm.trans hq)]
    have hturn : exec (.lossNotice h) s = .next ((lossNoticed s h).earlyEnd c (withdrawnRound h r) .lost).settle := by
      rw [hexec, lossCells_one hends only, List.foldl_cons, List.foldl_nil,
        loseRound_active (congrArg Cell.round hcell) hactive]
    refine ⟨fun collecting => ⟨lossNoticed s h, (lossNoticed s h).removeCell c, _, hnoticed,
      ⟨removeContributions_left (lossNoticed s h) _, rfl⟩, hsettled r, fun w walk => ?_, fun noWalk => ?_⟩,
      fun absorbing faulted => ⟨lossNoticed s h, _, hnoticed,
        earlyEnd_absorbing (r := withdrawnRound h r) c .lost absorbing faulted, hturn⟩⟩
    · rw [hturn, earlyEnd_drains (r := withdrawnRound h r) c .lost collecting walk, hcell]
      rfl
    · exact ⟨_, earlyEnd_closes (r := withdrawnRound h r) c .lost collecting (by decide) noWalk, hturn⟩
  · rw [(loseRounds_numbersStep _ (lossCells_spec s h).2 (lossNoticed s h)).2 c (mt mem_lossCells.1 stays)]
    exact hnoticed.1 c
  · obtain ⟨u, hsame, hcell, hcancels⟩ :=
      loseRounds_turn (lossCells_spec s h).2 (lossNoticed s h) (mem_lossCells.2 hends)
    have hactive : (withdrawnRound h r).phase = .collecting ∨ (withdrawnRound h r).phase = .absorbing := by
      obtain ⟨q, hq, hphase, -⟩ := hends
      rwa [← Option.some.inj (round.symm.trans hq)] at hphase
    obtain ⟨hdrains, hcloses, habsorbing⟩ :=
      loseRound_cell ((hsame.trans (lossNoticed_cell s h c)).trans (loseHost_ends hends round)) hactive
    refine ⟨fun collecting w walk => ?_, fun collecting noWalk => ?_, fun absorbing faulted => ?_⟩
    · obtain ⟨hdraining, hcancel⟩ := hdrains collecting w walk
      exact ⟨_, hsettled r, hcell.trans hdraining, hcancels hcancel⟩
    · exact ⟨_, hsettled r, hcell.trans (hcloses collecting noWalk)⟩
    · exact hcell.trans (habsorbing absorbing faulted)

end Sys2Proof.Machine
end
